-- ==== Sys2Proof/Word.lean ====
section
/-! DEFINITION. The bit-vector types the spec gives the machine: 32-bit port words (R54), 4-bit register
indexes (R80, R81) and 16-bit byte addresses (R50). -/

namespace Sys2Proof

/-- One byte of the register space (R50, R53). -/
abbrev Byte := BitVec 8

/-- One 32-bit word: a control register, a word of an operand register, a command (R20, R52, R80). -/
abbrev Word := BitVec 32

/-- A register field of a command, `zext_4(field)`: all 16 values are valid (R81). -/
abbrev RegIx := BitVec 4

/-- A host-port byte address, HADDR = 16 bits (R6, R50). -/
abbrev Addr := BitVec 16

end Sys2Proof
end

