-- ==== Sys2Proof/Machine/Arith.lean ====
section
/-! DEFINITION. The integer semantics of 00_scope.md: exact integers (R8), truncating division (R9), `split` (R11). -/

namespace Sys2Proof.Machine

/-- `tdiv(a, b) = sign(a) * sign(b) * floor(|a| / |b|)`, for `b != 0` (R9). -/
def tdiv (a b : Int) : Int := a.sign * b.sign * ((a.natAbs / b.natAbs : Nat) : Int)

/-- `trem(a, b) = a - b * tdiv(a, b)`, for `b != 0` (R9). `a mod b` in any rule means this. -/
def trem (a b : Int) : Int := a - b * tdiv a b

/-- The loop of R11, `while trem(r, 2) == 0: r <- tdiv(r, 2); s <- s + 1`, at most as often as the bound says. -/
def splitLoop : Nat → Nat → Int → Nat × Int
  | 0,     s, r => (s, r)
  | k + 1, s, r => if trem r 2 = 0 then splitLoop k (s + 1) (tdiv r 2) else (s, r)

/-- `split(m) = (s, r)` with `m = 2^s * r` and `r` odd, for `m >= 1` (R11). Halving more often than `m` times is
impossible, so that the bound `m` never cuts the loop short (log 12). -/
def split (m : Int) : Nat × Int := splitLoop m.toNat 0 m

end Sys2Proof.Machine
end

