-- ==== Sys2Proof/Config.lean ====
section
/-! DEFINITION. What an instance of the engine fixes (00_scope.md R6), the constants of the spec, and the
free values (R24, R55, R201). -/

namespace Sys2Proof

/-- The two values the parameter MR_SQ_LIMIT may take (R6, 90_conflicts.md C6). -/
inductive MrLimit where
  /-- `MR_SQ_LIMIT(s) = max(0, s - 2)`, the source's literal and the reference value. -/
  | sMinus2
  /-- `MR_SQ_LIMIT(s) = s - 1`, the one alternative. -/
  | sMinus1
deriving DecidableEq, Repr

/-- The parameters of an instance that may vary (R6). NREG, SMALL_PRIMES, CERT_RESET and HADDR are fixed. -/
structure Params where
  /-- OPW / 32, the number of words of an operand register (R32 field OPW32). -/
  opw32 : Nat
  /-- K_WIN, the window width of MODPOW. -/
  kWin  : Nat
  /-- MR_SQ_LIMIT, the number of extra squarings of a Miller-Rabin round. -/
  mrLim : MrLimit
deriving DecidableEq, Repr

/-- OPW, the width in bits of an operand register (R6). -/
def Params.opw (p : Params) : Nat := 32 * p.opw32

namespace Config

/-- The reference values of R6: OPW = 4096, K_WIN = 5, MR_SQ_LIMIT(s) = max(0, s - 2). -/
def reference : Params := ⟨128, 5, .sMinus2⟩

/-- NREG, the number of operand registers (R6, R21). -/
def nreg : Nat := 16

/-- SMALL_PRIMES, ascending (R6, R143). -/
def smallPrimes : List Nat := [2, 3, 5, 7, 11, 13, 17, 19, 23]

/-- CERT_RESET, the reset value of CERTAINTY (R6, R34). -/
def certReset : Word := 4

/-- The constant ID reads: "NTE" and command-set version 1 (R31). -/
def idWord : Word := 0x4E544501

/-- FREE VALUE (log 2): the data of the `k`-th host read of an unwritten word, "a fresh draw, any 32-bit value"
(R24, R55). It has no body, so nothing can be proved of its values. -/
opaque freeWord : Nat → Word

/-- FREE VALUE (log 1): word `j` of `R[i]` after the reset that is draw `k`, "unspecified" (R201, R202). It has no body,
so nothing can be proved of its values. -/
opaque resetWord (k : Nat) (i : RegIx) (j : Nat) : Word

end Config

end Sys2Proof
end

