-- ==== Sys2Proof/Syntax.lean ====
section
/-! DEFINITION. The commands of the engine, one constructor per row of spec/opcode_table.json (R80 to R82, R90). -/

namespace Sys2Proof

/-- The three commands. A register field is a 4-bit index, so that every term names registers that exist (R81). -/
inductive Instr where
  /-- `modpow rD, rB, rE, rM`: `R[rd] <- base^exponent mod modulus` (R100). -/
  | modpow (rd rs1 rs2 rs3 : RegIx)
  /-- `modinv rD, rA, rN`: `R[rd] <- a^-1 mod n`, if there is one (R120). -/
  | modinv (rd rs1 rs2 : RegIx)
  /-- `primetest rN`: a verdict in STATUS, INFO0 and INFO1 (R140). -/
  | primetest (rs1 : RegIx)
deriving DecidableEq, Repr

/-- The registers a command reads, by the operand roles of R81. -/
def Instr.sources : Instr → List RegIx
  | .modpow _ rs1 rs2 rs3 => [rs1, rs2, rs3]
  | .modinv _ rs1 rs2     => [rs1, rs2]
  | .primetest rs1        => [rs1]

/-- The register a command may write, by the operand roles of R81: PRIMETEST has none. -/
def Instr.dest : Instr → Option RegIx
  | .modpow rd _ _ _ => some rd
  | .modinv rd _ _   => some rd
  | .primetest _     => none

end Sys2Proof
end

