-- ==== Sys2Proof/WellFormed.lean ====
section
/-! DEFINITION. The checks on what the model is given: the parameter ranges of R6 and the register indexes of R81. -/

namespace Sys2Proof

/-- OPW is a multiple of 32 (by construction) with 64 <= OPW <= 30720 (R6). -/
def Params.opwOk (p : Params) : Bool := decide (64 ≤ p.opw) && decide (p.opw ≤ 30720)

/-- 1 <= K_WIN <= 8 (R6). -/
def Params.kWinOk (p : Params) : Bool := decide (1 ≤ p.kWin) && decide (p.kWin ≤ 8)

/-- An instance the spec allows: "A model may take another value only within the stated range" (R6). -/
def Params.wf (p : Params) : Bool := p.opwOk && p.kWinOk

/-- Every register a command names is one of the NREG operand registers (R81 "all 16 values are valid").
The 4-bit index type makes this true of every term: the reserved fields of a word (R83) are checked by the decoder. -/
def Instr.wf (i : Instr) : Bool :=
  (i.sources ++ i.dest.toList).all fun r => decide (r.toNat < Config.nreg)

end Sys2Proof
end

