-- ==== Sys2Proof/Decode.lean ====
section
/-! DEFINITION. The command word (R80): the decoder (R82, R83, the checks of R86), the encoder (R90), and the rows of
spec/opcode_table.json. -/

namespace Sys2Proof

/-- Why a word is no command. Both are error completions, never refusals (R173). -/
inductive DecodeError where
  /-- OPC is not 0x01, 0x02 or 0x03: ERR_ILLEGAL_OPCODE (R82, R173). -/
  | illegalOpcode
  /-- OPC is defined, and RSV or a must-be-0 field is not 0: ERR_RESERVED_FIELD (R83). -/
  | reservedField
deriving DecidableEq, Repr

/-- OPC, bits 7:0 (R80). -/
def fieldOpc (w : Word) : BitVec 8 := w.extractLsb' 0 8
/-- RD, bits 11:8 (R80). -/
def fieldRd (w : Word) : RegIx := w.extractLsb' 8 4
/-- RS1, bits 15:12 (R80). -/
def fieldRs1 (w : Word) : RegIx := w.extractLsb' 12 4
/-- RS2, bits 19:16 (R80). -/
def fieldRs2 (w : Word) : RegIx := w.extractLsb' 16 4
/-- RS3, bits 23:20 (R80). -/
def fieldRs3 (w : Word) : RegIx := w.extractLsb' 20 4
/-- RSV, bits 31:24 (R80). -/
def fieldRsv (w : Word) : BitVec 8 := w.extractLsb' 24 8

/-- The decoder, the checks of R86 in their order: OPC first, then the reserved fields (R83, R174). -/
def decode (w : Word) : Except DecodeError Instr :=
  if fieldOpc w = 0x01 then
    if fieldRsv w = 0 then
      .ok (.modpow (fieldRd w) (fieldRs1 w) (fieldRs2 w) (fieldRs3 w))
    else .error .reservedField
  else if fieldOpc w = 0x02 then
    if fieldRsv w = 0 ∧ fieldRs3 w = 0 then
      .ok (.modinv (fieldRd w) (fieldRs1 w) (fieldRs2 w))
    else .error .reservedField
  else if fieldOpc w = 0x03 then
    if fieldRsv w = 0 ∧ fieldRd w = 0 ∧ fieldRs2 w = 0 ∧ fieldRs3 w = 0 then
      .ok (.primetest (fieldRs1 w))
    else .error .reservedField
  else .error .illegalOpcode

/-- A command word from its fields, RSV = 0: `OPC | D<<8 | S1<<12 | S2<<16 | S3<<20` (R80, R90). -/
def commandWord (opc : BitVec 8) (rd rs1 rs2 rs3 : RegIx) : Word :=
  opc.setWidth 32 ||| rd.setWidth 32 <<< 8 ||| rs1.setWidth 32 <<< 12 ||| rs2.setWidth 32 <<< 16 |||
    rs3.setWidth 32 <<< 20

/-- The encoder, the words of R90. -/
def encode : Instr → Word
  | .modpow rd rs1 rs2 rs3 => commandWord 0x01 rd rs1 rs2 rs3
  | .modinv rd rs1 rs2     => commandWord 0x02 rd rs1 rs2 0
  | .primetest rs1         => commandWord 0x03 0 rs1 0 0

/-- A row of spec/opcode_table.json: a word is that command exactly when `w & mask = pattern` (R83). -/
structure OpcodeRow where
  mnemonic : String
  mask     : Word
  pattern  : Word
deriving DecidableEq, Repr

/-- The rows of spec/opcode_table.json, in its order. -/
def opcodeTable : List OpcodeRow :=
  [⟨"MODPOW",    0xFF0000FF, 0x00000001⟩,
   ⟨"MODINV",    0xFFF000FF, 0x00000002⟩,
   ⟨"PRIMETEST", 0xFFFF0FFF, 0x00000003⟩]

/-- The row of a command. -/
def Instr.row : Instr → OpcodeRow
  | .modpow _ _ _ _ => ⟨"MODPOW",    0xFF0000FF, 0x00000001⟩
  | .modinv _ _ _   => ⟨"MODINV",    0xFFF000FF, 0x00000002⟩
  | .primetest _    => ⟨"PRIMETEST", 0xFFFF0FFF, 0x00000003⟩

/-- Whether a word matches a row. -/
def OpcodeRow.matches (r : OpcodeRow) (w : Word) : Bool := w &&& r.mask == r.pattern

/-- The word of `nbits` bits of a table row, bit 0 the least significant. A command is one 32-bit word, so that no bit
stands above bit 31 and none below is missing (R80, R88). -/
def tableWord (nbits w : Nat) : Word := BitVec.ofNat 32 (w % 2 ^ nbits)

/-- What the decoder reads from an instruction whose bits are `w`, numbered as spec/opcode_table.json numbers them. -/
def decodeTableWord (nbits w : Nat) : Option Instr :=
  match decode (tableWord nbits w) with
  | .ok i    => some i
  | .error _ => none

end Sys2Proof
end

