-- ==== Sys2Proof/Machine/State.lean ====
section
/-! DEFINITION. The machine's state as plain data (10_state.md R20), its reset (70_reset_and_hazards.md R201), and the
reasons a step can stop. -/

namespace Sys2Proof.Machine

/-- STATUS.RESULT, the outcome of the last completion (R172). The reserved codes 5 to 15 are never written. -/
inductive ResultCode where
  | none | value | noInv | prime | composite
deriving DecidableEq, Repr

/-- STATUS.ERR, the error of the last completion (R171). The reserved codes 0x07 to 0xFF are never written. -/
inductive ErrCode where
  | none | illegalOpcode | reservedField | badModulus | badExponent | badOperand | witness
deriving DecidableEq, Repr

/-- STATUS, the fields of R30. The reserved bits read 0 and hold nothing (R28). -/
structure Status where
  busy   : Bool
  done   : Bool
  ovr    : Bool
  result : ResultCode
  err    : ErrCode
deriving DecidableEq, Repr

/-- One 32-bit word of an operand register, the bits it holds, and its entry `Wr[i][j]` of the written-word map (R24, R52). -/
structure RegWord where
  bits    : Word
  written : Bool
deriving DecidableEq, Repr

/-- An operand register: its OPW/32 words, word 0, the least significant, first (R21, R52). -/
abbrev Reg := List RegWord

/-- A witness request in flight on the witness port: round, `lo`, `hi` (R39, R69). -/
structure WitnessReq where
  round : Word
  lo    : Int
  hi    : Int
deriving DecidableEq, Repr

/-- An answer of the witness source: `err`, or `ok(v)` with `v = sext_OPW(w_data)` (R69). -/
inductive WitnessAnswer where
  | err
  | ok (v : Int)
deriving DecidableEq, Repr

/-- A host-port transaction (R54). -/
inductive Transaction where
  | read  (addr : Addr)
  | write (addr : Addr) (wdata : Word) (wstrb : BitVec 4)
deriving DecidableEq, Repr

/-- What the port returns to the host: `(data, err)` for a read, `err` for a write (R54). -/
inductive Response where
  | read  (data : Word) (err : Bool)
  | write (err : Bool)
deriving DecidableEq, Repr

/-- A step of one of the four agents (R5). -/
inductive Move where
  /-- The host makes one transaction. -/
  | host (t : Transaction)
  /-- The engine takes its step. -/
  | engine
  /-- The witness source answers: the signals `w_err` and `w_data` while `w_valid` (R68). Bit `k` of `wData`, for
  `k < OPW`, is wire `k` of `w_data` (log 13). -/
  | witness (wErr : Bool) (wData : Nat)
  /-- The reset agent resets the engine. -/
  | reset
deriving DecidableEq, Repr

/-- The state of the machine: the engine's architectural state (R20), the agents' coming moves, and what the host has
been answered. -/
structure State where
  /-- PARAM: the parameters of the instance, constant (R6, R20, R32). -/
  param     : Params
  /-- `R[0]` to `R[15]` with the written-word map (R21, R24). -/
  regs      : Vector Reg 16
  /-- CTRL.IE (R29). -/
  ie        : Bool
  /-- STATUS (R30). -/
  status    : Status
  /-- CMD, the last command word accepted (R33). -/
  cmd       : Word
  /-- CERTAINTY (R34). -/
  certainty : Word
  /-- INFO0 (R36). -/
  info0     : Word
  /-- INFO1 (R37). -/
  info1     : Word
  /-- The witness request in flight, if any (R20, R39). -/
  wreq      : Option WitnessReq
  /-- The answers the witness source has given the command in flight, first round first (R38, R86; log 6). -/
  witness   : List WitnessAnswer
  /-- The model's own: the moves the agents make next, in order (R5, R62; log 5). -/
  agenda    : List Move
  /-- The model's own: what the port answered the host, newest first (R54, R55, R59; log 8). -/
  responses : List Response
  /-- The model's own: the number of fresh draws made (R24, R55, R201; log 1, log 2). -/
  draws     : Nat
  /-- Ghost: `model_fault(UNINIT_OPERAND)` was recorded. A completion step that reads a source with an unwritten word
  records it, and nothing clears it (R24, R181, R213; log 14). -/
  modelFault : Bool
deriving DecidableEq, Repr

/-- Why the machine stops: for no reason. The engine has no traps (R170), its errors are completions (R175), and
`model_fault(UNINIT_OPERAND)`, of which the hardware knows nothing (R181), is recorded in `State.modelFault` while the
command runs (log 14). -/
inductive Fault where
deriving DecidableEq, Repr

/-- Why a step has no meaning. -/
inductive Refusal where
  /-- An instruction without a meaning, raised by `exec`'s arm alone. Safe: the model says nothing of it. No arm is so
  now. -/
  | notModelled (mnemonic : String)
deriving DecidableEq, Repr

/-- An operand register at power-on: every `Wr[i][j]` false (R24, R201). The spec gives it no contents. DESIGN CHOICE
(log 1): it holds 0. -/
def Reg.unwritten (p : Params) : Reg := List.replicate p.opw32 ⟨0, false⟩

/-- The state R201 gives after a reset of an instance. -/
def State.powerOn (p : Params) : State where
  param     := p
  regs      := Vector.replicate 16 (Reg.unwritten p)
  ie        := false
  status    := ⟨false, false, false, .none, .none⟩
  cmd       := 0
  certainty := Config.certReset
  info0     := 0
  info1     := 0
  wreq      := none
  witness   := []
  agenda    := []
  responses := []
  draws     := 0
  modelFault := false

/-- The machine right after reset: R201, for the reference instance of R6 (log 3). -/
def State.reset : State := State.powerOn Config.reference

end Sys2Proof.Machine
end

