-- ==== Sys2Proof/Machine/Flags.lean ====
section
/-! DEFINITION. The words of the control registers (R29 to R37), the codes of RESULT, ERR and REASON (R151, R171,
R172), the STATUS write (R30), and the outputs `irq` and `w_*` (R68, R179). -/

namespace Sys2Proof.Machine

/-- The RESULT codes (R172). -/
def ResultCode.code : ResultCode → BitVec 4
  | .none => 0 | .value => 1 | .noInv => 2 | .prime => 3 | .composite => 4

/-- The ERR codes (R171). -/
def ErrCode.code : ErrCode → BitVec 8
  | .none          => 0x00
  | .illegalOpcode => 0x01
  | .reservedField => 0x02
  | .badModulus    => 0x03
  | .badExponent   => 0x04
  | .badOperand    => 0x05
  | .witness       => 0x06

/-- STATUS as the host reads it: ERR 15:8, RESULT 7:4, reserved 3, OVR 2, DONE 1, BUSY 0 (R30). -/
def Status.word (t : Status) : Word :=
  (BitVec.ofBool t.busy).setWidth 32 ||| (BitVec.ofBool t.done).setWidth 32 <<< 1 |||
    (BitVec.ofBool t.ovr).setWidth 32 <<< 2 ||| t.result.code.setWidth 32 <<< 4 ||| t.err.code.setWidth 32 <<< 8

/-- A host write to STATUS: DONE and OVR are write-1-to-clear, every other bit is ignored (R30). -/
def Status.write (t : Status) (wdata : Word) : Status :=
  { t with done := t.done && !wdata.getLsbD 1, ovr := t.ovr && !wdata.getLsbD 2 }

/-- CTRL as the host reads it: IE in bit 0, the rest reserved (R28, R29). -/
def ctrlWord (ie : Bool) : Word := (BitVec.ofBool ie).setWidth 32

/-- PARAM.MRLIM (R32). -/
def mrLimBit : MrLimit → BitVec 1
  | .sMinus2 => 0
  | .sMinus1 => 1

/-- PARAM as the host reads it: MRLIM 28, OPW32 25:16, NREG 15:8, KWIN 7:0 (R32). -/
def paramWord (p : Params) : Word :=
  (BitVec.ofNat 8 p.kWin).setWidth 32 ||| (BitVec.ofNat 8 Config.nreg).setWidth 32 <<< 8 |||
    (BitVec.ofNat 10 p.opw32).setWidth 32 <<< 16 ||| (mrLimBit p.mrLim).setWidth 32 <<< 28

/-- The reason codes of PRIMETEST (R151). -/
inductive Reason where
  | none | passed | trivial | even | smallDiv | mrOne | mrExhausted
deriving DecidableEq, Repr

/-- INFO0.REASON (R151). -/
def reasonCode : Reason → BitVec 4
  | .none => 0 | .passed => 1 | .trivial => 2 | .even => 3 | .smallDiv => 4 | .mrOne => 5 | .mrExhausted => 6

/-- `INFO0 = (SMALLP << 8) | REASON` (R36, R151). -/
def info0Word (reason : Reason) (smallp : Nat) : Word :=
  (reasonCode reason).setWidth 32 ||| (BitVec.ofNat 8 smallp).setWidth 32 <<< 8

/-- The output `irq = STATUS.DONE AND CTRL.IE` (R179). -/
def State.irq (s : State) : Bool := s.status.done && s.ie

/-- The output `w_req`: a witness request is in flight (R68). -/
def State.wReq (s : State) : Bool := s.wreq.isSome

/-- The outputs `w_round`, `w_lo` and `w_hi`, given while a request is in flight (R68, R69). -/
def State.wSignals (s : State) : Option (Word × Int × Int) := s.wreq.map fun r => (r.round, r.lo, r.hi)

end Sys2Proof.Machine
end

