-- ==== Sys2Proof/Machine/Operands.lean ====
section
/-! DEFINITION. The operand registers: word order and two's complement (R21, R52), `val` and `enc_OPW` (R10), the
written-word map (R24), and how a command reads its sources and writes its destination (R22, R81, R86, R87). -/

namespace Sys2Proof.Machine

/-- The signed integer that words make, word 0 the least significant and bit 31 of the last one the sign (R21, R52):
`sext_OPW` of the pattern they hold. -/
def wordsVal : List Word → Int
  | []           => 0
  | [w]          => w.toInt
  | w :: v :: ws => (w.toNat : Int) + 4294967296 * wordsVal (v :: ws)

/-- The `n` words of `enc_OPW(v)` for OPW = 32 n, word 0 first (R10, R52). -/
def encWords : Nat → Int → List Word
  | 0,     _ => []
  | n + 1, v => BitVec.ofInt 32 v :: encWords n (v / 4294967296)

/-- `val(R[i])` (R21). -/
def Reg.val (r : Reg) : Int := wordsVal (r.map RegWord.bits)

/-- Every `Wr[i][j]` of a register is true (R24). -/
def Reg.allWritten (r : Reg) : Bool := r.all RegWord.written

/-- A register of `n` words that holds `enc_OPW(v)`, every word written (R87). -/
def Reg.ofInt (n : Nat) (v : Int) : Reg := (encWords n v).map fun w => ⟨w, true⟩

/-- `R[i]` after the reset that is draw `k`: every `Wr[i][j]` false, and the contents unspecified again (R24, R201,
R202; log 1). -/
def Reg.unspecified (p : Params) (k : Nat) (i : RegIx) : Reg :=
  (List.range p.opw32).map fun j => ⟨Config.resetWord k i j, false⟩

/-- `R[i]`: no register is hard-wired (R23), no aliases (R21). -/
def State.reg (s : State) (i : RegIx) : Reg := s.regs[i.toNat]'i.isLt

/-- The one place that replaces an operand register. -/
def State.setReg (s : State) (i : RegIx) (r : Reg) : State :=
  { s with regs := s.regs.set i.toNat r i.isLt }

/-- What the completion step reads of a source: `val(R[i])`, of whatever bits the register holds, written or not (R24,
R86, R181). -/
def State.readSource (s : State) (i : RegIx) : Int := (s.reg i).val

/-- Every source of a list is wholly written (R203 step 2). -/
def State.sourcesWritten (s : State) (l : List RegIx) : Bool := l.all fun i => (s.reg i).allWritten

/-- The completion step has read the sources of a list: `model_fault(UNINIT_OPERAND)` is recorded if a word of one is
unwritten (R24, R174 check 3, R181). The hardware has no check at this point, and the command goes on (log 14). -/
def State.noteSources (s : State) (l : List RegIx) : State :=
  { s with modelFault := s.modelFault || !s.sourcesWritten l }

/-- The engine's write of the destination, `R[rd] <- enc_OPW(v)` and `Wr[rd][j] <- true` for all `j` (R22, R87). -/
def State.writeResult (s : State) (rd : RegIx) (v : Int) : State :=
  s.setReg rd (Reg.ofInt s.param.opw32 v)

/-- The host's write of word `j` of `R[i]`: `R[i][32j+31:32j] <- wdata`, `Wr[i][j] <- true` (R56). -/
def State.setWord (s : State) (i : RegIx) (j : Nat) (w : Word) : State :=
  s.setReg i ((s.reg i).set j ⟨w, true⟩)

end Sys2Proof.Machine
end

