-- ==== Sys2Proof/Machine/Ops.lean ====
section
/-! DEFINITION. The shared operations on the state: issue (R85), completion (R87), the error completion that stands in
the place of a trap (R170, R175), acknowledgement (R176), the busy interlock (R35), and reset (R200 to R202). -/

namespace Sys2Proof.Machine

/-- Issue of a command word (R85): the host's write of CMD while BUSY = 0. -/
def State.issue (s : State) (w : Word) : State :=
  { s with
    cmd    := w
    status := { s.status with busy := true, done := false, result := .none, err := .none }
    info0  := 0
    info1  := 0 }

/-- `complete(result, err, info0, info1)` (R87). The command is over, so that no request of it is in flight and its
answers are gone (R38, R39; log 7). -/
def State.complete (s : State) (result : ResultCode) (err : ErrCode) (info0 info1 : Word) : State :=
  { s with
    status  := { s.status with busy := false, done := true, result := result, err := err }
    info0   := info0
    info1   := info1
    wreq    := none
    witness := [] }

/-- `raise ERR_X`: an error completion (R10, R170, R175). The engine has no trap: nothing is saved, no vector is taken,
and no operand register is written. -/
def State.raise (s : State) (err : ErrCode) (info1 : Word) : State := s.complete .none err 0 info1

/-- The host's STATUS write: with bit 1 set it acknowledges a completion, there being no return from a trap
(R30, R176). -/
def State.ackStatus (s : State) (wdata : Word) : State := { s with status := s.status.write wdata }

/-- A host write dropped by the busy interlock: only OVR is set (R35, R207). -/
def State.dropWrite (s : State) : State := { s with status := { s.status with ovr := true } }

/-- A reset step (R200 to R202). PARAM keeps its value (R32), and the operand registers' contents are unspecified again:
a fresh draw (log 1). The agents' coming moves, the host's record and the model fault, which nothing clears (R181), are
not the engine's and stay (log 5, log 8, log 14). -/
def State.resetEngine (s : State) : State :=
  { State.powerOn s.param with
    regs       := Vector.ofFn fun i => Reg.unspecified s.param s.draws (BitVec.ofFin i)
    agenda     := s.agenda
    responses  := s.responses
    draws      := s.draws + 1
    modelFault := s.modelFault }

/-- What the port returns to the host (R54). -/
def State.respond (s : State) (r : Response) : State := { s with responses := r :: s.responses }

/-- What an answer on the witness port says, for `OPW = opw`: `err` with `w_err`, else `ok(sext_OPW(w_data))` of the
OPW wires of `w_data` (R68, R69). -/
def witnessAnswer (opw : Nat) (wErr : Bool) (wData : Nat) : WitnessAnswer :=
  if wErr then .err else .ok (BitVec.ofNat opw wData).toInt

/-- An answer of the witness source (R69). It ends the request in flight. While no command is in flight there can be no
request, and the answer is ignored (R202; log 7). -/
def State.answerWitness (s : State) (wErr : Bool) (wData : Nat) : State :=
  if s.status.busy then
    { s with witness := s.witness ++ [witnessAnswer s.param.opw wErr wData], wreq := none }
  else s

/-- The engine's step is the next one made: with no moves planned a busy engine takes it (R211), otherwise it is put
first (log 4, log 5). -/
def State.engineNext (s : State) : State :=
  match s.agenda with
  | []        => s
  | m :: rest => { s with agenda := .engine :: m :: rest }

end Sys2Proof.Machine
end

