-- ==== Sys2Proof/Machine/ModInv.lean ====
section
/-! DEFINITION. MODINV (41_modinv.md): the extended Euclidean loop with its parity (R122, R123), and the command of
R120. -/

namespace Sys2Proof.Machine

/-- The running values of the loop of R122. -/
structure Euclid where
  u1    : Int
  u3    : Int
  v1    : Int
  v3    : Int
  odd   : Bool
  iters : Nat
deriving DecidableEq, Repr

/-- The seed of R122: `u1 = 1, u3 = a, v1 = 0, v3 = n`. -/
def euclidSeed (a n : Int) : Euclid := ⟨1, a, 0, n, false, 0⟩

/-- One iteration of R122. Both rotations use the values from before it. -/
def euclidStep (t : Euclid) : Euclid :=
  ⟨t.v1, t.v3, t.u1 + tdiv t.u3 t.v3 * t.v1, trem t.u3 t.v3, !t.odd, t.iters + 1⟩

/-- `while v3 != 0` (R122; v3 alone ends the loop, 90_conflicts.md C4), at most as often as the bound says. -/
def euclidLoop : Nat → Euclid → Euclid
  | 0,     t => t
  | n + 1, t => if t.v3 = 0 then t else euclidLoop n (euclidStep t)

/-- The result selection of R123: nothing if `u3 != 1`, else `n - u1` or `u1` by the parity. -/
def euclidResult (n : Int) (t : Euclid) : Option Int :=
  if t.u3 ≠ 1 then none else if t.odd then some (n - t.u1) else some t.u1

/-- `ModInv(a, n) = (x, iters)` for `a >= 0`, `n >= 2` (R122, R123). `v3` starts at `n` and falls at every iteration, so
that the bound `n + 1` never cuts the loop short (R212; log 12). -/
def modInv (a n : Int) : Option Int × Nat :=
  let t := euclidLoop (n.toNat + 1) (euclidSeed a n)
  (euclidResult n t, t.iters)

/-- MODINV after its sources are read: the domain checks in order, then the result (R120, R121, R174). -/
def State.finishModinv (s : State) (rd : RegIx) (a n : Int) : State :=
  if n ≤ 1 then s.raise .badModulus 0
  else if a < 0 then s.raise .badOperand 0
  else
    match modInv a n with
    | (none,   iters) => s.complete .noInv .none 0 (BitVec.ofNat 32 iters)
    | (some x, iters) => (s.writeResult rd x).complete .value .none 0 (BitVec.ofNat 32 iters)

/-- `Exec_MODINV(rd, rs1, rs2)` (R120). -/
def execModinv (rd rs1 rs2 : RegIx) (s : State) : Host.Outcome State Fault Refusal :=
  .next ((s.noteSources [rs1, rs2]).finishModinv rd (s.readSource rs1) (s.readSource rs2))

end Sys2Proof.Machine
end

