-- ==== Sys2Proof/Machine/ModPow.lean ====
section
/-! DEFINITION. MODPOW (40_modpow.md): the k-ary exponentiation of R101 to R103, and the command of R100. -/

namespace Sys2Proof.Machine

/-- The power table from entry `t` on: `table[0] = 1`, `table[i] = trem(table[i-1] * b, m)` (R101). -/
def powTable (b m : Int) : Nat → Int → List Int
  | 0,     _ => []
  | n + 1, t => t :: powTable b m n (trem (t * b) m)

/-- The base-`K` digits of `x`, least significant first, until the rest is 0 (R102). The bound is the exponent itself,
which is always enough (log 12). -/
def digits (K : Int) : Nat → Int → List Int
  | 0,     _ => []
  | n + 1, x => if x = 0 then [] else trem x K :: digits K n (tdiv x K)

/-- `repeat n times: r <- trem(r * r, m)` (R103). -/
def squareTimes (m : Int) : Nat → Int → Int
  | 0,     r => r
  | n + 1, r => squareTimes m n (trem (r * r) m)

/-- One digit of the main loop: K_WIN squarings, then the table entry if the digit is not 0 (R103). -/
def digitStep (kWin : Nat) (m : Int) (table : List Int) (d r : Int) : Int :=
  let r' := squareTimes m kWin r
  if d ≠ 0 then trem (r' * table.getD d.toNat 0) m else r'

/-- `ModPow(b, e, m)` for `e >= 0`, `m >= 1` (R101 to R103). The digits stand least significant first, so that folding
from the right takes the most significant one first. -/
def modPow (kWin : Nat) (b e m : Int) : Int :=
  if e = 0 then trem 1 m
  else (digits (2 ^ kWin : Nat) e.toNat e).foldr (digitStep kWin m (powTable b m (2 ^ kWin) 1)) 1

/-- Left-to-right square-and-multiply with `trem` reductions, the "acceptable equivalent implementation with identical
output" (R104): one squaring for each binary digit of `e`, most significant first. No command uses it. -/
def squareMultiply (b e m : Int) : Int :=
  (digits 2 e.toNat e).foldr
    (fun d r => if d ≠ 0 then trem (trem (r * r) m * b) m else trem (r * r) m) (trem 1 m)

/-- MODPOW after its sources are read: the domain checks in order, then the result (R100, R174). -/
def State.finishModpow (s : State) (rd : RegIx) (b e m : Int) : State :=
  if m ≤ 0 then s.raise .badModulus 0
  else if e < 0 then s.raise .badExponent 0
  else (s.writeResult rd (modPow s.param.kWin b e m)).complete .value .none 0 0

/-- `Exec_MODPOW(rd, rs1, rs2, rs3)` (R100). -/
def execModpow (rd rs1 rs2 rs3 : RegIx) (s : State) : Host.Outcome State Fault Refusal :=
  .next ((s.noteSources [rs1, rs2, rs3]).finishModpow rd (s.readSource rs1) (s.readSource rs2) (s.readSource rs3))

end Sys2Proof.Machine
end

