-- ==== Sys2Proof/Machine/PrimeTest.lean ====
section
/-! DEFINITION. PRIMETEST (42_primetest.md): parity, trial division, trivial acceptance and the Miller-Rabin rounds of
R142 to R149, and the command of R140. -/

namespace Sys2Proof.Machine

/-- The outcome of PrimeTest (R140): PRIME(reason, p, k), COMPOSITE(reason, p, k), WFAIL(i); or the round whose witness
the source has not answered yet (R39, R69). -/
inductive Verdict where
  | prime     (reason : Reason) (p k : Nat)
  | composite (reason : Reason) (p k : Nat)
  | wfail     (i : Nat)
  | waiting   (i : Nat)
deriving DecidableEq, Repr

/-- `MR_SQ_LIMIT(s)` (R6): `max(0, s - 2)` or `s - 1`. -/
def mrSqLimit : MrLimit → Nat → Nat
  | .sMinus2, s => s - 2
  | .sMinus1, s => s - 1

/-- How a round ends (R148, R149). -/
inductive RoundEnd where
  | pass | one | exhausted
deriving DecidableEq, Repr

/-- The squaring loop of R149 on `x`, at most `k` squarings. -/
def squareLoop (n : Int) : Nat → Int → RoundEnd
  | 0,     _ => .exhausted
  | k + 1, x =>
    let y := trem (x * x) n
    if y = 1 then .one else if y = n - 1 then .pass else squareLoop n k y

/-- The body of a round with witness `a`, where `n - 1 = 2^s * r` (R148, R149). -/
def roundBody (kWin : Nat) (lim : MrLimit) (n : Int) (s : Nat) (r a : Int) : RoundEnd :=
  let x := modPow kWin a r n
  if x = 1 ∨ x = n - 1 then .pass else squareLoop n (mrSqLimit lim s) x

/-- The witness of a round (R146, R147): a base, a failed answer, or none yet. -/
inductive Witness where
  | base (a : Int)
  | fail
  | await
deriving DecidableEq, Repr

/-- Round 0 uses 2 (R146). A later one uses the next answer of the source, which the engine checks against
`[2, n - 2]` (R147). -/
def roundWitness (n : Int) (i : Nat) (answers : List WitnessAnswer) : Witness :=
  if i = 0 then .base 2
  else
    match answers with
    | []           => .await
    | .err :: _    => .fail
    | (.ok v) :: _ => if v < 2 ∨ v > n - 2 then .fail else .base v

/-- The rounds from round `i` on, `k` of them left (R146). `answers` holds the answers not used so far. Round 0 uses none
(R147: one request for each round `i >= 1` that starts). -/
def rounds (kWin : Nat) (lim : MrLimit) (n : Int) (s : Nat) (r : Int) :
    Nat → Nat → List WitnessAnswer → Verdict
  | 0,     i, _       => .prime .passed 0 i
  | k + 1, i, answers =>
    match roundWitness n i answers with
    | .await  => .waiting i
    | .fail   => .wfail i
    | .base a =>
      match roundBody kWin lim n s r a with
      | .one       => .composite .mrOne 0 i
      | .exhausted => .composite .mrExhausted 0 i
      | .pass      => rounds kWin lim n s r k (i + 1) (if i = 0 then answers else answers.tail)

/-- The first of SMALL_PRIMES, in ascending order, that divides `n` (R143). -/
def firstDivisor (n : Int) : Option Nat := Config.smallPrimes.find? fun p => trem n (p : Int) = 0

/-- `PrimeTest(n, c)` for `n >= 0`, the steps of R142 to R149 in their order (90_conflicts.md C5). -/
def primeTest (kWin : Nat) (lim : MrLimit) (n : Int) (c : Nat) (answers : List WitnessAnswer) : Verdict :=
  if trem n 2 = 0 then .composite .even 0 0
  else
    match firstDivisor n with
    | some p => .composite .smallDiv p 0
    | none   =>
      if n ≤ 3 then .prime .trivial 0 0
      else rounds kWin lim n (split (n - 1)).1 (split (n - 1)).2 c 0 answers

/-- What a verdict writes (R140, R151). While the source has not answered, the request `(i, 2, n - 2)` is in flight, the
command stays in flight, and nothing else changes (R39, R69). -/
def State.report (s : State) (n : Int) : Verdict → State
  | .prime reason p k     => s.complete .prime .none (info0Word reason p) (BitVec.ofNat 32 k)
  | .composite reason p k => s.complete .composite .none (info0Word reason p) (BitVec.ofNat 32 k)
  | .wfail i              => s.raise .witness (BitVec.ofNat 32 i)
  | .waiting i            => { s with wreq := some ⟨BitVec.ofNat 32 i, 2, n - 2⟩ }

/-- PRIMETEST after its source is read: the domain check, then the test with the round count of CERTAINTY (R140,
R141). -/
def State.finishPrimetest (s : State) (n : Int) : State :=
  if n < 0 then s.raise .badOperand 0
  else s.report n (primeTest s.param.kWin s.param.mrLim n s.certainty.toNat s.witness)

/-- `Exec_PRIMETEST(rs1)` (R140). -/
def execPrimetest (rs1 : RegIx) (s : State) : Host.Outcome State Fault Refusal :=
  .next ((s.noteSources [rs1]).finishPrimetest (s.readSource rs1))

end Sys2Proof.Machine
end

