-- ==== Sys2Proof/Machine/Dispatch.lean ====
section
/-! DEFINITION. `exec`: one arm per command, one direct call of its meaning (the `case opc` of R86). -/

namespace Sys2Proof.Machine

def exec (i : Instr) (s : State) : Host.Outcome State Fault Refusal :=
  match i with
  | .modpow rd rs1 rs2 rs3 => Sys2Proof.Machine.execModpow rd rs1 rs2 rs3 s
  | .modinv rd rs1 rs2 => Sys2Proof.Machine.execModinv rd rs1 rs2 s
  | .primetest rs1 => Sys2Proof.Machine.execPrimetest rs1 s

end Sys2Proof.Machine
end

