-- ==== Sys2Proof/Machine/HostPort.lean ====
section
/-! DEFINITION. The host port of 20_memory.md: the address map (R51, R58), accessibility (R57), HostRead (R55),
HostWrite (R56), bus errors (R59) and the byte view of the register space (R53). -/

namespace Sys2Proof.Machine

/-- What an accessible address names (R27, R51). -/
inductive Target where
  | id | param | ctrl | status | cmd | certainty | info0 | info1
  /-- Word `j` of `R[i]`. -/
  | regWord (i : RegIx) (j : Nat)
deriving DecidableEq, Repr

/-- The control register of word `k` of the space, at byte offset `4 k` (R27). -/
def controlTarget : Nat → Option Target
  | 0 => some .id
  | 1 => some .param
  | 2 => some .ctrl
  | 3 => some .status
  | 4 => some .cmd
  | 5 => some .certainty
  | 6 => some .info0
  | 7 => some .info1
  | _ => none

/-- The address map (R51): what a byte address names if it is word-aligned (R57 condition 1) and mapped (condition 3).
`RBYTES = OPW / 8 = 4 * (OPW / 32)`. -/
def target (p : Params) (a : Addr) : Option Target :=
  let n := a.toNat
  if n % 4 ≠ 0 then none
  else if n < 0x20 then controlTarget (n / 4)
  else if n < 0x1000 then none
  else if n < 0x1000 + 16 * (4 * p.opw32) then
    some (.regWord (BitVec.ofNat 4 ((n - 0x1000) / (4 * p.opw32))) ((n - 0x1000) % (4 * p.opw32) / 4))
  else none

/-- Whether word `j` of `R[i]` has been written, `Wr[i][j]` (R24). -/
def State.isWritten (s : State) (i : RegIx) (j : Nat) : Bool := ((s.reg i).getD j ⟨0, false⟩).written

/-- The current value of what an address names (R55). ID is hard-wired (R31). -/
def State.portData (s : State) : Target → Word
  | .id          => Config.idWord
  | .param       => paramWord s.param
  | .ctrl        => ctrlWord s.ie
  | .status      => s.status.word
  | .cmd         => s.cmd
  | .certainty   => s.certainty
  | .info0       => s.info0
  | .info1       => s.info1
  | .regWord i j => if s.isWritten i j then ((s.reg i).getD j ⟨0, false⟩).bits else Config.freeWord s.draws

/-- Whether reading a target takes a fresh draw: it is an unwritten word (R24, R55). -/
def State.takesDraw (s : State) : Target → Bool
  | .regWord i j => !s.isWritten i j
  | _            => false

/-- A fresh draw was made, if `b` (R24). -/
def State.countDraw (s : State) (b : Bool) : State := if b then { s with draws := s.draws + 1 } else s

/-- `HostRead(addr)` (R55, R57, R59): the data, or data 0 and `err = 1`. No state of the engine changes (R61). -/
def State.hostRead (s : State) (a : Addr) : State :=
  match target s.param a with
  | some t => (s.countDraw (s.takesDraw t)).respond (.read (s.portData t) false)
  | none   => s.respond (.read 0 true)

/-- The effect of an accessible write (R56): read-only registers ignore it (R28), and while BUSY = 1 the writes the
interlock covers are dropped (R35). -/
def State.portWrite (s : State) (wdata : Word) : Target → State
  | .id | .param | .info0 | .info1 => s
  | .ctrl        => { s with ie := wdata.getLsbD 0 }
  | .status      => s.ackStatus wdata
  | .cmd         => if s.status.busy then s.dropWrite else s.issue wdata
  | .certainty   => if s.status.busy then s.dropWrite else { s with certainty := wdata }
  | .regWord i j => if s.status.busy then s.dropWrite else s.setWord i j wdata

/-- `HostWrite(addr, wdata, wstrb)` (R56): an access that is not of a full word, or not aligned, or unmapped, is a bus
error and changes nothing (R57, R59). -/
def State.hostWrite (s : State) (a : Addr) (wdata : Word) (wstrb : BitVec 4) : State :=
  if wstrb = 0b1111 then
    match target s.param a with
    | some t => (s.portWrite wdata t).respond (.write false)
    | none   => s.respond (.write true)
  else s.respond (.write true)

/-- One transaction (R54). -/
def State.transact (s : State) : Transaction → State
  | .read a          => s.hostRead a
  | .write a d strb  => s.hostWrite a d strb

/-- The word an accessible address holds now, for a statement about the register space: nothing where the address is
unmapped, and nothing where the word is unwritten and so has no value (R24, R51, R55). -/
def State.peek (s : State) (a : Addr) : Option Word :=
  match target s.param a with
  | some t => if s.takesDraw t then none else some (s.portData t)
  | none   => none

/-- The byte at a byte address: lane `a mod 4` of the word at `a - a mod 4` (R53). -/
def State.peekByte (s : State) (a : Addr) : Option Byte :=
  (s.peek (a &&& 0xFFFC)).map fun w => w.extractLsb' (8 * (a.toNat % 4)) 8

/-- The byte address of word `j` of `R[i]`, `0x1000 + i*RBYTES + 4*j` (R51). -/
def regWordAddr (p : Params) (i : RegIx) (j : Nat) : Addr :=
  BitVec.ofNat 16 (0x1000 + i.toNat * (4 * p.opw32) + 4 * j)

end Sys2Proof.Machine
end

