-- ==== Sys2Proof/Machine/Engine.lean ====
section
/-! DEFINITION. The engine's step (R86) and the steps of the four agents (R5). -/

namespace Sys2Proof.Machine

/-- The engine's step (R5, R86): none while BUSY = 0, else the completion of the word in CMD. A word that is no command
completes with its error (R173, R83). -/
def State.engineStep (s : State) : Host.Outcome State Fault Refusal :=
  if s.status.busy then
    match decode s.cmd with
    | .error .illegalOpcode => .next (s.raise .illegalOpcode 0)
    | .error .reservedField => .next (s.raise .reservedField 0)
    | .ok i                 => exec i s
  else .next s

/-- A step of the agent whose move it is (R5, R62). -/
def State.move (s : State) : Move → Host.Outcome State Fault Refusal
  | .host t              => .next (s.transact t)
  | .engine              => s.engineStep
  | .witness wErr wData  => .next (s.answerWitness wErr wData)
  | .reset               => .next s.resetEngine

/-- The next step in the total order (R62): the first move planned, or, with none planned, the engine's own step if a
command is in flight (R211; log 5). -/
def State.advance (s : State) : Host.Outcome State Fault Refusal :=
  match s.agenda with
  | []        => s.engineStep
  | m :: rest => State.move { s with agenda := rest } m

/-- `s` with the word `w` issued, and the engine's step next (R85, R203 step 5; log 4). -/
def State.placeCommand (s : State) (w : Word) : State := (s.issue w).engineNext

end Sys2Proof.Machine
end

