-- ==== Sys2Proof/Machine/Step.lean ====
section
/-! DEFINITION. One step of the machine, and the host's way to place a command where the engine takes it. -/

namespace Sys2Proof.Machine

/-- One step (R5, R62). -/
def step (s : State) : Host.Outcome State Fault Refusal := s.advance

/-- `s` with the command word of bits `w` in CMD, in flight, so that the next step runs it (R25, R85, R203; log 4). -/
def State.withFetchWord (s : State) (nbits w : Nat) : State := s.placeCommand (tableWord nbits w)

end Sys2Proof.Machine
end

