-- ==== Sys2Proof/Machine/HostScript.lean ====
section
/-! DEFINITION. The host-script pseudo-instructions of R92, as the transactions they expand to. They are host text, not
engine commands (R89): a host program is the list of its transactions on the agenda, put there in its order. -/

namespace Sys2Proof.Machine

/-- `setr rI, V`: every word of `enc_OPW(V)` in increasing order (R92, R70). -/
def setrWrites (p : Params) (i : RegIx) (v : Int) : List Transaction :=
  (encWords p.opw32 v).mapIdx fun j w => .write (regWordAddr p i j) w 0b1111

/-- `getr rI -> name`: a read of every word in increasing order (R92). -/
def getrReads (p : Params) (i : RegIx) : List Transaction :=
  (List.range p.opw32).map fun j => .read (regWordAddr p i j)

/-- The value `getr` makes of the words it read, in their order: `sext_OPW` of them together (R92). -/
def getrValue (words : List Word) : Int := wordsVal words

/-- `setcert V` (R92). -/
def setcertWrite (v : Word) : Transaction := .write 0x014 v 0b1111

/-- `issue CMDTEXT`: a write of the command's encoding to CMD (R90, R92). -/
def issueWrite (i : Instr) : Transaction := .write 0x010 (encode i) 0b1111

/-- One poll of `wait`: a read of STATUS. How often the host polls is the host's control flow (R92). -/
def pollRead : Transaction := .read 0x00C

/-- `ack`: clear DONE and OVR (R92, R176). -/
def ackWrite : Transaction := .write 0x00C 0x00000006 0b1111

/-- `irqon`: enable the interrupt (R92). -/
def irqonWrite : Transaction := .write 0x008 0x00000001 0b1111

/-- The data of the reads among responses, oldest first, given newest first. -/
def readData (rs : List Response) : List Word :=
  rs.reverse.filterMap fun
    | .read d _ => some d
    | .write _  => none

end Sys2Proof.Machine
end

