-- ==== Sys2Proof/Safety.lean ====
section
/-! DEFINITION. What claims about a run use: the invariant of the machine, the frame of a completion, the end of a run
(R213), and the words for a candidate and for a round of PRIMETEST. -/

namespace Sys2Proof.Machine

/-- What holds of every state the machine reaches. -/
structure State.Inv (s : State) : Prop where
  /-- The instance is one the spec allows (R6). -/
  instanceOk : s.param.wf = true
  /-- Every operand register has OPW/32 words (R21). -/
  regWords : ∀ i : RegIx, (s.reg i).length = s.param.opw32
  /-- "BUSY = 1 and DONE = 1 never hold together" (R30). -/
  busyNotDone : ¬ (s.status.busy = true ∧ s.status.done = true)
  /-- While a command is in flight the previous outcome is cleared (R85, R205). -/
  busyCleared : s.status.busy = true →
    s.status.result = .none ∧ s.status.err = .none ∧ s.info0 = 0 ∧ s.info1 = 0
  /-- An error completion has no result (R170, R175). -/
  errorNoResult : s.status.err ≠ .none → s.status.result = .none
  /-- Every answer is a value of OPW bits (R69). -/
  answersFit : ∀ v, .ok v ∈ s.witness → -(2 ^ (s.param.opw - 1) : Int) ≤ v ∧ v < 2 ^ (s.param.opw - 1)
  /-- While no command is in flight there is no witness request and no answer (R39, R202). -/
  idleNoWitness : s.status.busy = false → s.wreq = none ∧ s.witness = []
  /-- A request in flight is one of a PRIMETEST: `lo = 2`, `hi = n - 2`, one request for each round from 1 on, of the
  rounds CERTAINTY asks for (R39, R147). -/
  requestOk : ∀ r, s.wreq = some r →
    r.lo = 2 ∧ r.round.toNat = s.witness.length + 1 ∧ r.round.toNat < s.certainty.toNat ∧
      ∃ i, decode s.cmd = .ok (.primetest i) ∧ r.hi = (s.reg i).val - 2
  /-- The reserved bits of INFO0 are 0 (R28, R36). -/
  info0Reserved : s.info0 &&& 0xFFFF00F0 = 0
  /-- INFO0.REASON is 0 exactly when the last outcome is no verdict of PRIMETEST (R36). -/
  reasonVerdict : s.info0.extractLsb' 0 4 ≠ 0 ↔ s.status.result = .prime ∨ s.status.result = .composite

/-- What the engine's step leaves unchanged: everything but STATUS.BUSY, DONE, RESULT, ERR, INFO0, INFO1, the witness
port's working state, the ghost record of the model fault, and the register `rd`, if any (R22, R87). -/
structure CompletionFrame (rd : Option RegIx) (s t : State) : Prop where
  regs      : ∀ i, rd ≠ some i → t.reg i = s.reg i
  param     : t.param = s.param
  ie        : t.ie = s.ie
  ovr       : t.status.ovr = s.status.ovr
  cmd       : t.cmd = s.cmd
  certainty : t.certainty = s.certainty
  agenda    : t.agenda = s.agenda
  responses : t.responses = s.responses
  draws     : t.draws = s.draws

/-- A completion has been reported: BUSY = 0, DONE = 1 and the outcome (R87). No request is left in flight. -/
structure Completed (result : ResultCode) (err : ErrCode) (info0 info1 : Word) (t : State) : Prop where
  busy   : t.status.busy = false
  done   : t.status.done = true
  result : t.status.result = result
  err    : t.status.err = err
  info0  : t.info0 = info0
  info1  : t.info1 = info1
  wreq   : t.wreq = none

/-- A move of the host. -/
def Move.isHost : Move → Bool
  | .host _ => true
  | _       => false

/-- A move of the host or of the witness source, those that may come between an issue and its completion (R84). -/
def Move.isOutside : Move → Bool
  | .host _ | .witness _ _ => true
  | .engine | .reset       => false

/-- The end of a run (R213): the host program has executed its last transaction, BUSY = 0, and no witness request is in
flight. -/
def State.runEnded (s : State) : Bool := !s.agenda.any Move.isHost && !s.status.busy && s.wreq.isNone

/-- A run is well-ended if, at its end, no `model_fault` was recorded (R213). -/
def State.wellEnded (s : State) : Bool := s.runEnded && !s.modelFault

/-- A candidate that passes the parity check, trial division and the trivial acceptance, and so reaches Miller-Rabin
(R142 to R145). -/
def ReachesRounds (n : Int) : Prop := trem n 2 ≠ 0 ∧ firstDivisor n = none ∧ 3 < n

/-- How a round with witness `a` on the candidate `n` ends in the instance of `s` (R148, R149). -/
def State.roundOf (s : State) (n a : Int) : RoundEnd :=
  roundBody s.param.kWin s.param.mrLim n (split (n - 1)).1 (split (n - 1)).2 a

/-- An answer the engine accepts, in `[2, n - 2]`, whose round passes (R147 to R149). -/
def State.passes (s : State) (n : Int) (a : WitnessAnswer) : Prop :=
  ∃ v, a = .ok v ∧ 2 ≤ v ∧ v ≤ n - 2 ∧ s.roundOf n v = .pass

end Sys2Proof.Machine
end

