-- ==== Sys2Proof/Certificates/Slice0/Obligations.lean ====
section
/-! DEFINITION. The statements for the provers, from the numbered rules of spec/. -/

open Sys2Proof Sys2Proof.Machine

/-! ## Encoding (30_encoding.md) -/

/-- The command words written out in R90 and table 2.4 of 95_test_vectors.md decode to what they stand for. -/
def Obligations.WrittenOutWordsDecode : Prop :=
  decode 0x00321001 = .ok (.modpow 0 1 2 3) ∧ decode 0x00065402 = .ok (.modinv 4 5 6) ∧
  decode 0x00007003 = .ok (.primetest 7) ∧ decode 0x00123401 = .ok (.modpow 4 3 2 1) ∧
  decode 0x00000000 = .error .illegalOpcode ∧ decode 0xFF000004 = .error .illegalOpcode ∧
  decode 0x01321001 = .error .reservedField ∧ decode 0x00165402 = .error .reservedField ∧
  decode 0x00007103 = .error .reservedField ∧ decode 0x00017003 = .error .reservedField ∧
  decode 0x00107003 = .error .reservedField

/-- Decoding the word of a command gives the command back, with every register at every value (R80, R90). -/
def Obligations.DecodeEncodeRoundTrip : Prop :=
  ∀ i : Instr, i.wf = true → decode (encode i) = .ok i

/-- A word that decodes is the word of what it decodes to: no bit of a command word is ignored (R80, R83). -/
def Obligations.DecodedWordIsItsEncoding : Prop :=
  ∀ (w : Word) (i : Instr), decode w = .ok i → encode i = w

/-- "a word is a defined command exactly when `(w & mask) == match` for one row of `opcode_table.json`" (R83). -/
def Obligations.DefinedCommandIffOneTableRow : Prop :=
  ∀ w : Word, (∃ i, decode w = .ok i) ↔ ∃! r, r ∈ opcodeTable ∧ w &&& r.mask = r.pattern

/-- A word with an undefined OPC completes with ERR_ILLEGAL_OPCODE, whatever its other bits, and so does the all-zero
word; it is not refused (R173, R82). -/
def Obligations.UndefinedOpcodeCompletesIllegal : Prop :=
  ∀ s : State, s.status.busy = true →
    (s.cmd &&& 0xFF ≠ 1 ∧ s.cmd &&& 0xFF ≠ 2 ∧ s.cmd &&& 0xFF ≠ 3) ∨ s.cmd = 0 →
    ∃ t, s.engineStep = .next t ∧ Completed .none .illegalOpcode 0 0 t ∧ CompletionFrame none s t

/-- A word with a defined OPC and a non-zero bit in RSV, or a non-zero must-be-0 field, completes with
ERR_RESERVED_FIELD and changes no operand register. The check comes after the OPC check. A word whose OPC matches and
which matches no row is such a word, and a word that matches one is a command (R83). -/
def Obligations.ReservedFieldsCompleteWithError : Prop :=
  ∀ s : State, s.status.busy = true →
    (s.cmd &&& 0xFF = 1 ∨ s.cmd &&& 0xFF = 2 ∨ s.cmd &&& 0xFF = 3 →
      ((s.cmd &&& 0xFF000000 ≠ 0 ∨
        (s.cmd &&& 0xFF = 2 ∧ s.cmd &&& 0x00F00000 ≠ 0) ∨
        (s.cmd &&& 0xFF = 3 ∧ (s.cmd &&& 0x00000F00 ≠ 0 ∨ s.cmd &&& 0x000F0000 ≠ 0 ∨ s.cmd &&& 0x00F00000 ≠ 0))) ↔
        ¬ ∃ r ∈ opcodeTable, s.cmd &&& r.mask = r.pattern) ∧
      ((¬ ∃ r ∈ opcodeTable, s.cmd &&& r.mask = r.pattern) →
        ∃ t, s.engineStep = .next t ∧ Completed .none .reservedField 0 0 t ∧ CompletionFrame none s t)) ∧
    ((∃ i, decode s.cmd = .ok i) ↔ ∃ r ∈ opcodeTable, s.cmd &&& r.mask = r.pattern) ∧
    (s.cmd &&& 0xFF ≠ 1 ∧ s.cmd &&& 0xFF ≠ 2 ∧ s.cmd &&& 0xFF ≠ 3 →
      ∃ t, s.engineStep = .next t ∧ Completed .none .illegalOpcode 0 0 t ∧ CompletionFrame none s t)

/-! ## Steps (00_scope.md R5, 20_memory.md R62, 30_encoding.md R86) -/

/-- When a command is in flight, its word decodes to `i` and the engine moves, the step is `exec` of `i`. What stands
around `exec` is the schedule, which is the model's own (log 5): the move is taken off the agenda, and with no move
planned the engine moves by itself. -/
def Obligations.StepRunsTheCommandInFlight : Prop :=
  ∀ (s : State) (i : Instr) (rest : List Move), s.status.busy = true → decode s.cmd = .ok i → i.wf = true →
    (s.agenda = [] → step s = exec i s) ∧
    (s.agenda = .engine :: rest → step s = exec i { s with agenda := rest })

/-- The four agents' moves are made in the order of the agenda, one a step: the engine's move is its step, whatever word
is in CMD, and it has none while BUSY = 0 (R5, R62). The agenda, and what an empty one does, are the model's choice (log 5). -/
def Obligations.StepMakesTheNextMove : Prop :=
  ∀ (s : State) (rest : List Move),
    (∀ x, s.agenda = .host x :: rest → step s = .next (State.transact { s with agenda := rest } x)) ∧
    (∀ e d, s.agenda = .witness e d :: rest → step s = .next (State.answerWitness { s with agenda := rest } e d)) ∧
    (s.agenda = .reset :: rest → step s = .next (State.resetEngine { s with agenda := rest })) ∧
    (s.agenda = .engine :: rest → step s = State.engineStep { s with agenda := rest }) ∧
    (s.agenda = [] → step s = s.engineStep) ∧
    (s.agenda = .engine :: rest → s.status.busy = false → step s = .next { s with agenda := rest }) ∧
    (s.agenda = [] → s.status.busy = false → step s = .next s)

/-- Every step answers a next state, and the model's one fault of its own, `model_fault(UNINIT_OPERAND)`, is recorded
exactly when it is the engine's turn (first on the agenda, or nothing planned: log 5), a command is in flight, and some
word of one of its source registers is unwritten; it is never cleared (R24, R86, R181). That the run goes on after the
record is the model's choice (log 14). -/
def Obligations.ModelFaultIsRecordedAndNeverCleared : Prop :=
  ∀ s : State, ∃ t, step s = .next t ∧
    (t.modelFault = true ↔ s.modelFault = true ∨
      ((s.agenda = [] ∨ s.agenda.head? = some .engine) ∧ s.status.busy = true ∧
        ∃ i, decode s.cmd = .ok i ∧ ∃ r ∈ i.sources, ∃ x ∈ s.reg r, x.written = false))

/-- A command computes with the contents of its sources, written or not: whatever the written-word map says of registers
that hold the same bits, the outcome and the bits it leaves are the same. The map decides the model fault alone (R24,
R181: the hardware "computes with the register's unspecified contents"; log 14). -/
def Obligations.UnwrittenSourcesComputeWithTheirContents : Prop :=
  ∀ (i : Instr) (s : State) (regs : Vector Reg 16),
    (∀ r : RegIx, (State.reg { s with regs := regs } r).map RegWord.bits = (s.reg r).map RegWord.bits) →
    ∃ t t', exec i s = .next t ∧ exec i { s with regs := regs } = .next t' ∧
      (t.modelFault = true ↔ s.modelFault = true ∨ ∃ r ∈ i.sources, ∃ x ∈ s.reg r, x.written = false) ∧
      (∀ r : RegIx, (t'.reg r).map RegWord.bits = (t.reg r).map RegWord.bits) ∧
      t' = { t with regs := t'.regs, modelFault := t'.modelFault }

/-- An answer of the witness source, `err` or `ok(sext_OPW(w_data))`, goes to the command in flight and ends the request;
with no command in flight it is ignored (R69, R202; the model's reading of both, log 7). The values an answer can carry
are exactly those of OPW bits (R69). -/
def Obligations.WitnessAnswerReachesOnlyTheCommandInFlight : Prop :=
  ∀ s : State, s.param.wf = true →
    (∀ wErr wData, s.status.busy = true → s.answerWitness wErr wData = { s with
      witness := s.witness ++ [if wErr then .err else .ok (BitVec.ofNat s.param.opw wData).toInt], wreq := none }) ∧
    (∀ wErr wData, s.status.busy = false → s.answerWitness wErr wData = s) ∧
    ∀ v : Int, (-(2 ^ (s.param.opw - 1) : Int) ≤ v ∧ v < 2 ^ (s.param.opw - 1)) ↔
      ∃ wData : Nat, wData < 2 ^ s.param.opw ∧ (BitVec.ofNat s.param.opw wData).toInt = v

/-! ## Reset (70_reset_and_hazards.md) -/

/-- The state after reset (R201): every operand register unspecified (every `Wr[i][j]` false, so no word has a value to
read), and every control register, the witness request and `irq` as the table gives them, read at the port. -/
def Obligations.ResetLeavesTheTabledState : Prop :=
  (∀ i : RegIx, (State.reset.reg i).length = 128 ∧ ∀ x ∈ State.reset.reg i, x.written = false) ∧
  (∀ (i : RegIx) (j : Nat), j < 128 → State.reset.peek (regWordAddr Config.reference i j) = none) ∧
  State.reset.peek 0x000 = some 0x4E544501 ∧ State.reset.peek 0x004 = some 0x00801005 ∧
  State.reset.peek 0x008 = some 0 ∧ State.reset.peek 0x00C = some 0 ∧ State.reset.peek 0x010 = some 0 ∧
  State.reset.peek 0x014 = some 4 ∧ State.reset.peek 0x018 = some 0 ∧ State.reset.peek 0x01C = some 0 ∧
  State.reset.status = ⟨false, false, false, .none, .none⟩ ∧ State.reset.ie = false ∧
  State.reset.wreq = none ∧ State.reset.wReq = false ∧ State.reset.irq = false ∧ State.reset.witness = [] ∧
  State.reset.engineStep = .next State.reset

/-- The invariant holds after reset. -/
def Obligations.InvariantHoldsAtReset : Prop := State.reset.Inv

/-- A reset move, between any two steps, an idle engine's too, leaves the state of R201, read at the port as well: every
operand register unspecified (every `Wr[i][j]` false), PARAM kept (R32), and every control register as the table says; the
engine then has no step. A command in flight is abandoned by it: no completion, no register written by it, no outcome, the
witness request withdrawn, and a later answer ignored (R202). -/
def Obligations.ResetAbandonsTheCommandInFlight : Prop :=
  ∀ s : State, ∃ t, s.move .reset = .next t ∧
    (∀ i : RegIx, (t.reg i).length = s.param.opw32 ∧ ∀ x ∈ t.reg i, x.written = false) ∧
    (s.param.wf = true → ∀ (i : RegIx) (j : Nat), j < s.param.opw32 → t.peek (regWordAddr s.param i j) = none) ∧
    t.param = s.param ∧ t.peek 0x000 = some 0x4E544501 ∧ t.peek 0x004 = some (paramWord s.param) ∧
    t.peek 0x008 = some 0 ∧ t.peek 0x00C = some 0 ∧ t.peek 0x010 = some 0 ∧ t.peek 0x014 = some 4 ∧
    t.peek 0x018 = some 0 ∧ t.peek 0x01C = some 0 ∧
    t.ie = false ∧ t.status = ⟨false, false, false, .none, .none⟩ ∧ t.cmd = 0 ∧ t.certainty = 4 ∧
    t.info0 = 0 ∧ t.info1 = 0 ∧ t.wreq = none ∧ t.wReq = false ∧ t.witness = [] ∧ t.irq = false ∧
    t.move .engine = .next t ∧
    (s.status.busy = true → t.status.done = false ∧ t.status.result = .none ∧
      ∀ wErr wData, t.move (.witness wErr wData) = .next t)

/-! ## The invariant and whole-machine rules -/

/-- Every step keeps the invariant: the registers keep their OPW bits, BUSY and DONE exclude each other, an outcome is
never shown while a command is in flight, an error has no result, reserved bits stay 0, and a witness request in flight
is one of a PRIMETEST with the bounds and the round of R39 and R147. -/
def Obligations.EveryStepKeepsTheInvariant : Prop :=
  ∀ s t : State, s.Inv → step s = .next t → t.Inv

/-- "BUSY, RESULT and ERR change only by issue, completion and reset" (R30), said of the move the step makes (the agenda
is the model's, log 5). -/
def Obligations.OutcomeChangesOnlyByIssueCompletionReset : Prop :=
  ∀ s t : State, step s = .next t →
    (t.status.busy, t.status.result, t.status.err) ≠ (s.status.busy, s.status.result, s.status.err) →
    (∃ w rest, s.agenda = .host (.write 0x010 w 0b1111) :: rest ∧ s.status.busy = false ∧ t.status.busy = true) ∨
    ((s.agenda = [] ∨ s.agenda.head? = some .engine) ∧ s.status.busy = true ∧
      t.status.busy = false ∧ t.status.done = true) ∨
    s.agenda.head? = some .reset

/-- Who writes an operand register (R22): the host, a word of it while BUSY = 0; the engine, the destination of a MODPOW
or of a MODINV that completes with RES_VALUE; and reset, which makes every register unspecified. Whose move it is stands
on the agenda, the model's own (log 5). -/
def Obligations.OperandRegisterWriters : Prop :=
  ∀ (s t : State) (k : RegIx), step s = .next t → t.reg k ≠ s.reg k →
    (∃ a w rest j, s.agenda = .host (.write a w 0b1111) :: rest ∧ s.status.busy = false ∧
      target s.param a = some (.regWord k j) ∧ t.reg k = (s.reg k).set j ⟨w, true⟩) ∨
    ((s.agenda = [] ∨ s.agenda.head? = some .engine) ∧ s.status.busy = true ∧
      (∃ i, decode s.cmd = .ok i ∧ i.dest = some k) ∧ t.status.result = .value ∧ t.status.err = .none ∧
      (t.reg k).length = s.param.opw32 ∧ (t.reg k).allWritten = true) ∨
    s.agenda.head? = some .reset

/-- The engine's step leaves every register but the command's destination, and CTRL, OVR, CMD, CERTAINTY, PARAM, as they
were; if no value is produced it leaves the destination too (R22, R87). Every byte of the register space outside the
destination, STATUS, INFO0 and INFO1 reads as before. -/
def Obligations.CommandFrame : Prop :=
  ∀ (i : Instr) (s t : State), exec i s = .next t →
    CompletionFrame i.dest s t ∧
    (t.status.result ≠ .value → CompletionFrame none s t) ∧
    ∀ a : Addr,
      (∀ g, target s.param (a &&& 0xFFFC) = some g →
        g ≠ .status ∧ g ≠ .info0 ∧ g ≠ .info1 ∧ ∀ r j, i.dest = some r → g ≠ .regWord r j) →
      t.peekByte a = s.peekByte a

/-- An error completion (R175): RESULT = RES_NONE, INFO0 = 0, INFO1 = 0 or for ERR_WITNESS the round, BUSY <- 0,
DONE <- 1, CMD keeps the word, and nothing else changes: no operand register, CERTAINTY, CTRL or OVR. -/
def Obligations.ErrorCompletionChangesNothingElse : Prop :=
  ∀ s t : State, s.status.busy = true → s.status.err = .none → s.engineStep = .next t → t.status.err ≠ .none →
    Completed .none t.status.err 0 t.info1 t ∧ CompletionFrame none s t ∧
    (t.status.err ≠ .witness → t.info1 = 0) ∧
    (t.status.err = .witness → 1 ≤ t.info1.toNat ∧ t.info1.toNat < s.certainty.toNat)

/-- Whatever the host and the witness source do between an issue and its completion, the operands, CERTAINTY and the
command a completion step reads are those of the issue (R35, R84). The moves are taken from the agenda (log 5). -/
def Obligations.OperandsStableWhileInFlight : Prop :=
  ∀ (s t : State) (ms rest : List Move), s.status.busy = true → (∀ m ∈ ms, m.isOutside = true) →
    s.agenda = ms ++ rest → Sys2Proof.core.run ms.length s = .next t →
    t.regs = s.regs ∧ t.certainty = s.certainty ∧ t.cmd = s.cmd ∧ t.param = s.param ∧ t.status.busy = true ∧
      t.agenda = rest

/-- "The value is constant for an instance, and reset does not change it": PARAM's fields at every instance R6 allows,
its reference value, and no step changes it (R32). -/
def Obligations.ParamIsConstantAndReportsTheInstance : Prop :=
  (∀ p : Params, p.wf = true →
    ((paramWord p).extractLsb' 0 8).toNat = p.kWin ∧ ((paramWord p).extractLsb' 8 8).toNat = 16 ∧
    ((paramWord p).extractLsb' 16 10).toNat = p.opw32 ∧ (paramWord p).extractLsb' 26 2 = 0 ∧
    ((paramWord p).extractLsb' 28 1 = 0 ↔ p.mrLim = .sMinus2) ∧
    ((paramWord p).extractLsb' 28 1 = 1 ↔ p.mrLim = .sMinus1) ∧ (paramWord p).extractLsb' 29 3 = 0) ∧
  paramWord ⟨128, 5, .sMinus2⟩ = 0x00801005 ∧
  (∀ s : State, s.peek 0x004 = some (paramWord s.param)) ∧
  (∀ (s : State) (w : Word) (strb : BitVec 4), ∃ e, s.hostWrite 0x004 w strb = s.respond (.write e)) ∧
  ∀ s t : State, step s = .next t → t.param = s.param

/-! ## MODPOW (40_modpow.md) -/

/-- The closed form: the k-ary algorithm gives `trem(b^e, m)` for every window width, and so does left-to-right
square-and-multiply with `trem` reductions (R104). -/
def Obligations.ModPowClosedForm : Prop :=
  ∀ (k : Nat) (b e m : Int), 1 ≤ k → 0 ≤ e → 1 ≤ m →
    modPow k b e m = trem (b ^ e.toNat) m ∧ squareMultiply b e m = trem (b ^ e.toNat) m

/-- Sign and range of the result (R105). -/
def Obligations.ModPowSignAndRange : Prop :=
  (∀ (k : Nat) (b e m : Int), 1 ≤ k → 0 ≤ e → 1 ≤ m →
    (m = 1 → modPow k b e m = 0) ∧
    (1 < m → 0 ≤ b ∨ e % 2 = 0 →
      modPow k b e m = |b| ^ e.toNat % m ∧ 0 ≤ modPow k b e m ∧ modPow k b e m ≤ m - 1) ∧
    (1 < m → b < 0 → e % 2 = 1 →
      modPow k b e m = -(|b| ^ e.toNat % m) ∧ -(m - 1) ≤ modPow k b e m ∧ modPow k b e m ≤ 0) ∧
    m ∣ modPow k b e m - b ^ e.toNat) ∧
  modPow 5 (-2) 5 33 = -32 ∧ modPow 5 (-2) 4 33 = 16

/-- The result always fits: `|v| <= m - 1 <= 2^(OPW-1) - 2` for a modulus `m` that a register holds, and the engine
writes the exact value (R106). -/
def Obligations.ModPowResultFits : Prop :=
  ∀ (k n : Nat) (b e : Int) (r : Reg), 1 ≤ k → 0 < n → 0 ≤ e → r.length = n → 1 ≤ r.val →
    |modPow k b e r.val| ≤ r.val - 1 ∧ r.val - 1 ≤ 2 ^ (32 * n - 1) - 2 ∧
    (Reg.ofInt n (modPow k b e r.val)).val = modPow k b e r.val

/-- MODPOW completes with `R[rd] = trem(b^e, m)`, for any registers, equal or not, read before the write
(R100, R87, R23). -/
def Obligations.ModpowCompletesWithTheResidue : Prop :=
  ∀ (rd rs1 rs2 rs3 : RegIx) (s : State), s.param.wf = true → (∀ i, (s.reg i).length = s.param.opw32) →
    (s.reg rs1).allWritten = true → (s.reg rs2).allWritten = true → (s.reg rs3).allWritten = true →
    1 ≤ (s.reg rs3).val → 0 ≤ (s.reg rs2).val →
    ∃ t, exec (.modpow rd rs1 rs2 rs3) s = .next t ∧ Completed .value .none 0 0 t ∧
      (t.reg rd).val = trem ((s.reg rs1).val ^ (s.reg rs2).val.toNat) (s.reg rs3).val ∧
      (t.reg rd).allWritten = true ∧ CompletionFrame (some rd) s t

/-- MODPOW's domain errors: `m <= 0` first, whatever `e` is, then `e < 0` (R100, R174). -/
def Obligations.ModpowDomainErrors : Prop :=
  ∀ (rd rs1 rs2 rs3 : RegIx) (s : State),
    (s.reg rs1).allWritten = true → (s.reg rs2).allWritten = true → (s.reg rs3).allWritten = true →
    ((s.reg rs3).val ≤ 0 → ∃ t, exec (.modpow rd rs1 rs2 rs3) s = .next t ∧
      Completed .none .badModulus 0 0 t ∧ CompletionFrame none s t) ∧
    (1 ≤ (s.reg rs3).val → (s.reg rs2).val < 0 → ∃ t, exec (.modpow rd rs1 rs2 rs3) s = .next t ∧
      Completed .none .badExponent 0 0 t ∧ CompletionFrame none s t)

/-! ## MODINV (41_modinv.md) -/

/-- What ModInv returns for `a >= 0`, `n >= 2` (R124): the inverse in `[1, n - 1]`, which fits the destination, or
nothing. -/
def Obligations.ModInvReturnsTheInverse : Prop :=
  ∀ a n : Int, 0 ≤ a → 2 ≤ n →
    (Int.gcd a n = 1 → ∃ x, (modInv a n).1 = some x ∧ 1 ≤ x ∧ x ≤ n - 1 ∧ trem (a * x) n = 1 ∧
      ∀ r : Reg, r.val = n → x < 2 ^ (32 * r.length - 1)) ∧
    (Int.gcd a n ≠ 1 → (modInv a n).1 = none)

/-- `a >= n >= 2` (R126): the first iteration leaves `(0, n, 1, trem(a, n))` with `odd` true, as that of `trem(a, n)`
does, so that result and count agree; a multiple of `n` gives NONE after one iteration. -/
def Obligations.ModInvReducesItsOperand : Prop :=
  ∀ a n : Int, 2 ≤ n → n ≤ a →
    1 ≤ tdiv a n ∧
    euclidStep (euclidSeed a n) = ⟨0, n, 1, trem a n, true, 1⟩ ∧
    (trem a n ≠ 0 → euclidStep (euclidSeed (trem a n) n) = ⟨0, n, 1, trem a n, true, 1⟩ ∧
      modInv a n = modInv (trem a n) n) ∧
    (trem a n = 0 → modInv a n = (none, 1))

/-- INFO1 after a MODINV that is no error is the iteration count mod 2^32, whose parity is the tracked parity; the count
stays below 2^32 for every OPW R6 allows (R125). -/
def Obligations.ModInvIterationCount : Prop :=
  (∀ (rd rs1 rs2 : RegIx) (s : State), (s.reg rs1).allWritten = true → (s.reg rs2).allWritten = true →
    2 ≤ (s.reg rs2).val → 0 ≤ (s.reg rs1).val →
    ∃ t, exec (.modinv rd rs1 rs2) s = .next t ∧ t.status.err = .none ∧
      t.info1 = BitVec.ofNat 32 ((modInv (s.reg rs1).val (s.reg rs2).val).2 % 2 ^ 32)) ∧
  (∀ (a n : Int) (k : Nat), ((euclidLoop k (euclidSeed a n)).odd = true ↔
      (euclidLoop k (euclidSeed a n)).iters % 2 = 1)) ∧
  (∀ (p : Params) (a n : Int), p.wf = true → 0 ≤ a → 2 ≤ n → n < 2 ^ (p.opw - 1) → (modInv a n).2 < 2 ^ 32) ∧
  (modInv 7 26).2 = 5 ∧ (modInv 0 21).2 = 1 ∧ (modInv 7 21).2 = 2

/-- MODINV completes: with an inverse, RES_VALUE and `R[rd]` the inverse; without one, RES_NOINV and `R[rd]` unchanged,
which is no error (R120, R87). -/
def Obligations.ModinvCompletesWithTheInverse : Prop :=
  ∀ (rd rs1 rs2 : RegIx) (s : State), s.param.wf = true → (∀ i, (s.reg i).length = s.param.opw32) →
    (s.reg rs1).allWritten = true → (s.reg rs2).allWritten = true →
    2 ≤ (s.reg rs2).val → 0 ≤ (s.reg rs1).val →
    ∃ t, exec (.modinv rd rs1 rs2) s = .next t ∧
      (Int.gcd (s.reg rs1).val (s.reg rs2).val = 1 →
        Completed .value .none 0 (BitVec.ofNat 32 (modInv (s.reg rs1).val (s.reg rs2).val).2) t ∧
        1 ≤ (t.reg rd).val ∧ (t.reg rd).val ≤ (s.reg rs2).val - 1 ∧
        trem ((s.reg rs1).val * (t.reg rd).val) (s.reg rs2).val = 1 ∧
        (t.reg rd).allWritten = true ∧ CompletionFrame (some rd) s t) ∧
      (Int.gcd (s.reg rs1).val (s.reg rs2).val ≠ 1 →
        Completed .noInv .none 0 (BitVec.ofNat 32 (modInv (s.reg rs1).val (s.reg rs2).val).2) t ∧
        CompletionFrame none s t)

/-- MODINV's domain errors: `n <= 1` first, whatever `a` is, then `a < 0` (R120, R121, R174). -/
def Obligations.ModinvDomainErrors : Prop :=
  ∀ (rd rs1 rs2 : RegIx) (s : State), (s.reg rs1).allWritten = true → (s.reg rs2).allWritten = true →
    ((s.reg rs2).val ≤ 1 → ∃ t, exec (.modinv rd rs1 rs2) s = .next t ∧
      Completed .none .badModulus 0 0 t ∧ CompletionFrame none s t) ∧
    (2 ≤ (s.reg rs2).val → (s.reg rs1).val < 0 → ∃ t, exec (.modinv rd rs1 rs2) s = .next t ∧
      Completed .none .badOperand 0 0 t ∧ CompletionFrame none s t)

/-! ## PRIMETEST (42_primetest.md) -/

/-- "A negative candidate completes with ERR_BAD_OPERAND" (R141). -/
def Obligations.NegativeCandidateIsBadOperand : Prop :=
  ∀ (rs1 : RegIx) (s : State), (s.reg rs1).allWritten = true → (s.reg rs1).val < 0 →
    ∃ t, exec (.primetest rs1) s = .next t ∧ Completed .none .badOperand 0 0 t ∧ CompletionFrame none s t

/-- The steps before Miller-Rabin, in their order, for every CERTAINTY: an even candidate is COMPOSITE(EVEN) (R142); an
odd one that a small prime divides is COMPOSITE(SMALLDIV) with the least such prime, which is never 2 (R143), the small
primes themselves among them; of the rest `n <= 3` is PRIME(TRIVIAL), and that is `n = 1` alone (R144). -/
def Obligations.PrimetestPreFilter : Prop :=
  ∀ (rs1 : RegIx) (s : State) (n : Int), (s.reg rs1).allWritten = true → (s.reg rs1).val = n → 0 ≤ n →
    (n % 2 = 0 → ∃ t, exec (.primetest rs1) s = .next t ∧
      Completed .composite .none 0x00000003 0 t ∧ CompletionFrame none s t) ∧
    (∀ p ∈ ([2, 3, 5, 7, 11, 13, 17, 19, 23] : List Nat), n % 2 ≠ 0 → (p : Int) ∣ n →
      (∀ q ∈ ([2, 3, 5, 7, 11, 13, 17, 19, 23] : List Nat), q < p → ¬ (q : Int) ∣ n) →
      p ≠ 2 ∧ ∃ t, exec (.primetest rs1) s = .next t ∧
        Completed .composite .none (BitVec.ofNat 32 (p * 256 + 4)) 0 t ∧ CompletionFrame none s t) ∧
    (n = 1 → ∃ t, exec (.primetest rs1) s = .next t ∧
      Completed .prime .none 0x00000002 0 t ∧ CompletionFrame none s t) ∧
    (n ≤ 3 → n % 2 ≠ 0 → (∀ p ∈ ([2, 3, 5, 7, 11, 13, 17, 19, 23] : List Nat), ¬ (p : Int) ∣ n) → n = 1)

/-- The candidates that reach Miller-Rabin are exactly the odd `n >= 29` that no prime in `[3, 23]` divides; the witness
range is then never empty, and the fixed witness 2 lies in it (R150). -/
def Obligations.CandidatesThatReachMillerRabin : Prop :=
  ∀ n : Int, 0 ≤ n →
    (ReachesRounds n ↔
      n % 2 = 1 ∧ 29 ≤ n ∧ ∀ p : Nat, p.Prime → 3 ≤ p → p ≤ 23 → ¬ (p : Int) ∣ n) ∧
    (ReachesRounds n → 27 ≤ n - 2 ∧ (2 : Int) ≤ 2 ∧ 2 ≤ n - 2)

/-- With CERTAINTY = 0 no round runs: every candidate that reaches the rounds completes PRIME(PASSED, 0, 0) and no
witness is requested (R153). -/
def Obligations.CertaintyZeroAcceptsWithoutARound : Prop :=
  ∀ (rs1 : RegIx) (s : State), (s.reg rs1).allWritten = true → 0 ≤ (s.reg rs1).val →
    ReachesRounds (s.reg rs1).val → s.certainty = 0 →
    ∃ t, exec (.primetest rs1) s = .next t ∧ Completed .prime .none 0x00000001 0 t ∧ CompletionFrame none s t

/-- `c >= 1` rounds that all pass, round 0 with witness 2 and the others with the first `c - 1` answers: PRIME(PASSED)
with INFO1 = `c` (R146, R148, R149). Answers beyond those change nothing. -/
def Obligations.AllRoundsPassedIsPrime : Prop :=
  ∀ (rs1 : RegIx) (s : State) (good more : List WitnessAnswer), (s.reg rs1).allWritten = true →
    0 ≤ (s.reg rs1).val → ReachesRounds (s.reg rs1).val → s.witness = good ++ more →
    s.certainty.toNat = good.length + 1 → s.roundOf (s.reg rs1).val 2 = .pass →
    (∀ a ∈ good, s.passes (s.reg rs1).val a) →
    ∃ t, exec (.primetest rs1) s = .next t ∧ Completed .prime .none 0x00000001 s.certainty t ∧
      CompletionFrame none s t

/-- The first round that rejects ends the command, with its index in INFO1 and MR_ONE or MR_EXHAUSTED in INFO0, whatever
answers follow: round 0 for `c >= 1`, and round `i >= 1` after rounds that passed (R146, R149, R151). -/
def Obligations.FirstRejectingRoundIsReported : Prop :=
  ∀ (rs1 : RegIx) (s : State), (s.reg rs1).allWritten = true → 0 ≤ (s.reg rs1).val →
    ReachesRounds (s.reg rs1).val →
    (1 ≤ s.certainty.toNat →
      (s.roundOf (s.reg rs1).val 2 = .one → ∃ t, exec (.primetest rs1) s = .next t ∧
        Completed .composite .none 0x00000005 0 t ∧ CompletionFrame none s t) ∧
      (s.roundOf (s.reg rs1).val 2 = .exhausted → ∃ t, exec (.primetest rs1) s = .next t ∧
        Completed .composite .none 0x00000006 0 t ∧ CompletionFrame none s t)) ∧
    ∀ (good more : List WitnessAnswer) (v : Int), s.witness = good ++ .ok v :: more →
      good.length + 1 < s.certainty.toNat → s.roundOf (s.reg rs1).val 2 = .pass →
      (∀ a ∈ good, s.passes (s.reg rs1).val a) → 2 ≤ v → v ≤ (s.reg rs1).val - 2 →
      (s.roundOf (s.reg rs1).val v = .one → ∃ t, exec (.primetest rs1) s = .next t ∧
        Completed .composite .none 0x00000005 (BitVec.ofNat 32 (good.length + 1)) t ∧ CompletionFrame none s t) ∧
      (s.roundOf (s.reg rs1).val v = .exhausted → ∃ t, exec (.primetest rs1) s = .next t ∧
        Completed .composite .none 0x00000006 (BitVec.ofNat 32 (good.length + 1)) t ∧ CompletionFrame none s t)

/-- A witness answer that is `err`, or outside `[2, n - 2]`, ends the command with ERR_WITNESS, INFO1 the round, and no
verdict (R147). -/
def Obligations.BadWitnessIsErrWitness : Prop :=
  ∀ (rs1 : RegIx) (s : State) (good more : List WitnessAnswer) (bad : WitnessAnswer),
    (s.reg rs1).allWritten = true → 0 ≤ (s.reg rs1).val → ReachesRounds (s.reg rs1).val →
    s.witness = good ++ bad :: more → good.length + 1 < s.certainty.toNat →
    s.roundOf (s.reg rs1).val 2 = .pass → (∀ a ∈ good, s.passes (s.reg rs1).val a) →
    bad = .err ∨ (∃ v, bad = .ok v ∧ (v < 2 ∨ v > (s.reg rs1).val - 2)) →
    ∃ t, exec (.primetest rs1) s = .next t ∧
      Completed .none .witness 0 (BitVec.ofNat 32 (good.length + 1)) t ∧ CompletionFrame none s t

/-- A round whose witness the source has not answered leaves the command in flight with the request `(i, 2, n - 2)` on
the witness port; nothing else changes, so that the host sees only BUSY staying 1 (R39, R69; that the engine's move is
then made again with more answers is the model's choice, log 6). -/
def Obligations.UnansweredWitnessLeavesTheRequestInFlight : Prop :=
  ∀ (rs1 : RegIx) (s : State), (s.reg rs1).allWritten = true → 0 ≤ (s.reg rs1).val →
    ReachesRounds (s.reg rs1).val → s.witness.length + 1 < s.certainty.toNat →
    s.roundOf (s.reg rs1).val 2 = .pass → (∀ a ∈ s.witness, s.passes (s.reg rs1).val a) →
    exec (.primetest rs1) s =
      .next { s with wreq := some ⟨BitVec.ofNat 32 (s.witness.length + 1), 2, (s.reg rs1).val - 2⟩ }

/-- "PRIMETEST always ends, provided every witness request is answered": with an answer for each round from 1 on, the
engine's step is a completion, a verdict or ERR_WITNESS (R155). -/
def Obligations.PrimetestEndsOnceAnswered : Prop :=
  ∀ (rs1 : RegIx) (s : State), (s.reg rs1).allWritten = true → 0 ≤ (s.reg rs1).val →
    s.certainty.toNat ≤ s.witness.length + 1 →
    ∃ t, exec (.primetest rs1) s = .next t ∧ t.status.busy = false ∧ t.status.done = true ∧ t.wreq = none ∧
      CompletionFrame none s t ∧
      ((t.status.err = .none ∧ (t.status.result = .prime ∨ t.status.result = .composite)) ∨
       (t.status.err = .witness ∧ t.status.result = .none ∧ 1 ≤ t.info1.toNat ∧
         t.info1.toNat < s.certainty.toNat))

/-- What a Miller-Rabin round does on a prime `p >= 29` (R152): under `s - 2` it rejects exactly when `s >= 2` and the
witness is a quadratic non-residue, with MR_EXHAUSTED; under `s - 1` it passes. -/
def Obligations.RoundOnAPrime : Prop :=
  ∀ (k p : Nat) (a : Int), 1 ≤ k → p.Prime → 29 ≤ p → 2 ≤ a → a ≤ p - 2 →
    (roundBody k .sMinus2 p (split (p - 1)).1 (split (p - 1)).2 a = .exhausted ↔
      2 ≤ (split ((p : Int) - 1)).1 ∧ ¬ IsSquare (a : ZMod p)) ∧
    (roundBody k .sMinus2 p (split (p - 1)).1 (split (p - 1)).2 a = .pass ↔
      ¬ (2 ≤ (split ((p : Int) - 1)).1 ∧ ¬ IsSquare (a : ZMod p))) ∧
    roundBody k .sMinus1 p (split (p - 1)).1 (split (p - 1)).2 a = .pass

/-- The consequences of the reference MR_SQ_LIMIT for a prime `p >= 29` (R152): `p = 3 (mod 4)` passes every round for
every witness; `p = 5 (mod 8)` is COMPOSITE(MR_EXHAUSTED, 0, 0) for every CERTAINTY >= 1; `p = 1 (mod 8)` passes round
0. -/
def Obligations.ReferenceLimitOnPrimes : Prop :=
  ∀ (rs1 : RegIx) (s : State) (p : Nat), s.param.wf = true → s.param.mrLim = .sMinus2 →
    (s.reg rs1).allWritten = true → (s.reg rs1).val = p → p.Prime → 29 ≤ p →
    (p % 4 = 3 → ∀ a : Int, 2 ≤ a → a ≤ p - 2 → s.roundOf p a = .pass) ∧
    (p % 8 = 5 → 1 ≤ s.certainty.toNat → ∃ t, exec (.primetest rs1) s = .next t ∧
      Completed .composite .none 0x00000006 0 t ∧ CompletionFrame none s t) ∧
    (p % 8 = 1 → s.roundOf p 2 = .pass)

/-- Under MR_SQ_LIMIT(s) = s - 1 no prime is rejected: with a good answer for each round from 1 on, every prime
`p >= 29` completes PRIME(PASSED) (R152). -/
def Obligations.AlternativeLimitAcceptsEveryPrime : Prop :=
  ∀ (rs1 : RegIx) (s : State) (p : Nat), s.param.wf = true → s.param.mrLim = .sMinus1 →
    (s.reg rs1).allWritten = true → (s.reg rs1).val = p → p.Prime → 29 ≤ p →
    1 ≤ s.certainty.toNat → s.certainty.toNat ≤ s.witness.length + 1 →
    (∀ a ∈ s.witness, ∃ v, a = .ok v ∧ 2 ≤ v ∧ v ≤ (p : Int) - 2) →
    ∃ t, exec (.primetest rs1) s = .next t ∧ Completed .prime .none 0x00000001 s.certainty t ∧
      CompletionFrame none s t

/-- What COMPOSITE means (R154): with MR_ONE the candidate is composite, whatever MR_SQ_LIMIT is; with EVEN it is even;
with SMALLDIV the reported prime divides it. -/
def Obligations.CompositeReasonsAreSound : Prop :=
  ∀ (k : Nat) (lim : MrLimit) (n c : Nat) (answers : List WitnessAnswer) (p j : Nat), 1 ≤ k →
    (primeTest k lim n c answers = .composite .mrOne p j → 4 ≤ n ∧ ¬ n.Prime) ∧
    (primeTest k lim n c answers = .composite .even p j → 2 ∣ n) ∧
    (primeTest k lim n c answers = .composite .smallDiv p j → p.Prime ∧ p ∣ n)

/-! ## The host port (20_memory.md, 10_state.md) -/

/-- Which addresses are mapped, and that no address aliases another (R58, R51). -/
def Obligations.AddressMapHasNoAliases : Prop :=
  ∀ p : Params, p.wf = true →
    (∀ a : Addr, (0x20 ≤ a.toNat ∧ a.toNat < 0x1000) ∨ 0x1000 + 16 * (p.opw / 8) ≤ a.toNat → target p a = none) ∧
    (∀ a : Addr, a.toNat % 4 = 0 → a.toNat < 0x20 ∨ (0x1000 ≤ a.toNat ∧ a.toNat < 0x1000 + 16 * (p.opw / 8)) →
      ∃ g, target p a = some g) ∧
    (∀ (a b : Addr) (g : Target), target p a = some g → target p b = some g → a = b) ∧
    ∀ (a : Addr) (i : RegIx) (j : Nat), target p a = some (.regWord i j) ↔
      j < p.opw / 32 ∧ a.toNat = 0x1000 + i.toNat * (p.opw / 8) + 4 * j

/-- HostRead at an accessible address (R55): `err = 0` and the current value, BUSY or not, and no side effect on any
state of the engine. An unwritten word returns some 32-bit value, of which nothing is said. -/
def Obligations.HostReadReturnsTheCurrentValue : Prop :=
  ∀ s : State, s.param.wf = true →
    (∀ (a : Addr) (g : Target), target s.param a = some g →
      ∃ d k, s.hostRead a = { s with responses := .read d false :: s.responses, draws := k }) ∧
    s.hostRead 0x000 = s.respond (.read 0x4E544501 false) ∧
    s.hostRead 0x004 = s.respond (.read (paramWord s.param) false) ∧
    s.hostRead 0x008 = s.respond (.read (if s.ie then 1 else 0) false) ∧
    s.hostRead 0x00C = s.respond (.read s.status.word false) ∧
    s.hostRead 0x010 = s.respond (.read s.cmd false) ∧
    s.hostRead 0x014 = s.respond (.read s.certainty false) ∧
    s.hostRead 0x018 = s.respond (.read s.info0 false) ∧
    s.hostRead 0x01C = s.respond (.read s.info1 false) ∧
    ∀ (i : RegIx) (j : Nat) (x : RegWord), j < s.param.opw32 → (s.reg i)[j]? = some x → x.written = true →
      s.hostRead (regWordAddr s.param i j) = s.respond (.read x.bits false)

/-- HostWrite of a full word at each accessible address (R56). -/
def Obligations.HostWriteEffects : Prop :=
  ∀ (s : State) (w : Word), s.param.wf = true →
    s.hostWrite 0x000 w 0b1111 = s.respond (.write false) ∧
    s.hostWrite 0x004 w 0b1111 = s.respond (.write false) ∧
    s.hostWrite 0x018 w 0b1111 = s.respond (.write false) ∧
    s.hostWrite 0x01C w 0b1111 = s.respond (.write false) ∧
    s.hostWrite 0x008 w 0b1111 = State.respond { s with ie := w.getLsbD 0 } (.write false) ∧
    s.hostWrite 0x00C w 0b1111 = State.respond { s with status :=
      { s.status with done := s.status.done && !w.getLsbD 1, ovr := s.status.ovr && !w.getLsbD 2 } } (.write false) ∧
    (s.status.busy = true →
      s.hostWrite 0x010 w 0b1111 = State.respond { s with status := { s.status with ovr := true } } (.write false) ∧
      s.hostWrite 0x014 w 0b1111 = State.respond { s with status := { s.status with ovr := true } } (.write false) ∧
      ∀ (i : RegIx) (j : Nat), j < s.param.opw32 → s.hostWrite (regWordAddr s.param i j) w 0b1111 =
        State.respond { s with status := { s.status with ovr := true } } (.write false)) ∧
    (s.status.busy = false →
      s.hostWrite 0x010 w 0b1111 = (s.issue w).respond (.write false) ∧
      s.hostWrite 0x014 w 0b1111 = State.respond { s with certainty := w } (.write false) ∧
      ∀ (i : RegIx) (j : Nat), j < s.param.opw32 → s.hostWrite (regWordAddr s.param i j) w 0b1111 =
        (s.setReg i ((s.reg i).set j ⟨w, true⟩)).respond (.write false))

/-- The issue of a command (R85): any word, while BUSY = 0, DONE or not, does exactly this in one step, and the port
answers `err = 0`. -/
def Obligations.IssueAcceptsAnyWord : Prop :=
  ∀ (s : State) (w : Word), s.status.busy = false →
    s.move (.host (.write 0x010 w 0b1111)) = .next { s with
      cmd := w, status := ⟨true, false, s.status.ovr, .none, .none⟩, info0 := 0, info1 := 0,
      responses := .write false :: s.responses }

/-- A transaction that is misaligned, of part of a word, or unmapped is a bus error: `err = 1`, a read returns data 0,
nothing changes, and `irq` does not move; a dropped write is none (R57, R59). -/
def Obligations.BusErrorHasNoEffect : Prop :=
  ∀ (s : State) (a : Addr) (w : Word) (strb : BitVec 4),
    (a.toNat % 4 ≠ 0 ∨ (0x20 ≤ a.toNat ∧ a.toNat < 0x1000) ∨ 0x1000 + 64 * s.param.opw32 ≤ a.toNat →
      s.hostRead a = s.respond (.read 0 true) ∧ s.hostWrite a w strb = s.respond (.write true) ∧
      (s.hostRead a).irq = s.irq ∧ (s.hostWrite a w strb).irq = s.irq) ∧
    (strb ≠ 0b1111 → s.hostWrite a w strb = s.respond (.write true)) ∧
    (s.status.busy = true → strb = 0b1111 → ∀ g, target s.param a = some g →
      ((s.hostWrite a w strb).responses = .write false :: s.responses))

/-- The bytes of the register space (R53): lane `b` of the word at `A - b`, and, for a written register, byte `k` from
its start is byte `k` of the little-endian two's-complement encoding of its value. -/
def Obligations.BytesOfARegisterAreLittleEndian : Prop :=
  ∀ s : State, s.param.wf = true → (∀ i, (s.reg i).length = s.param.opw32) →
    (∀ a : Addr, s.peekByte a =
      (s.peek (BitVec.ofNat 16 (a.toNat - a.toNat % 4))).map fun w => w.extractLsb' (8 * (a.toNat % 4)) 8) ∧
    ∀ (i : RegIx) (k : Nat), (s.reg i).allWritten = true → k < s.param.opw / 8 →
      s.peekByte (BitVec.ofNat 16 (0x1000 + i.toNat * (s.param.opw / 8) + k)) =
        some ((BitVec.ofInt s.param.opw (s.reg i).val).extractLsb' (8 * k) 8)

/-- Word `j` of a register that holds `v` is bits `32j+31..32j` of the OPW-bit pattern of `v`, and bit 31 of its last
word is the sign of the value (R52). -/
def Obligations.WordsOfARegisterAreThePattern : Prop :=
  (∀ (n : Nat) (v : Int) (j : Nat), j < n →
    ((Reg.ofInt n v)[j]?.map RegWord.bits) = some ((BitVec.ofInt (32 * n) v).extractLsb' (32 * j) 32)) ∧
  (∀ r : Reg, (r.val < 0 ↔ ∃ x, r.getLast? = some x ∧ x.bits.getLsbD 31 = true)) ∧
  ∀ (r : Reg) (j : Nat) (x : RegWord), r[j]? = some x →
    x.bits = (BitVec.ofInt (32 * r.length) r.val).extractLsb' (32 * j) 32

/-- A host that writes all OPW/32 words of `enc_OPW(v)` makes `val(R[i]) = v`, step by step at the port; a write of the
low word alone leaves the other words as they were (R70, R92 `setr`; the writes are taken from the agenda, log 5). -/
def Obligations.WritingEveryWordSetsTheValue : Prop :=
  (∀ (s : State) (i : RegIx) (v : Int) (rest : List Move), s.param.wf = true →
    (∀ k, (s.reg k).length = s.param.opw32) → s.status.busy = false →
    -(2 ^ (s.param.opw - 1) : Int) ≤ v → v < 2 ^ (s.param.opw - 1) →
    s.agenda = (setrWrites s.param i v).map Move.host ++ rest →
    ∃ t, Sys2Proof.core.run s.param.opw32 s = .next t ∧ t.agenda = rest ∧ (t.reg i).val = v ∧
      (t.reg i).allWritten = true ∧ (∀ k, k ≠ i → t.reg k = s.reg k) ∧ t.status = s.status ∧ t.cmd = s.cmd) ∧
  ∀ (s : State) (i : RegIx) (w : Word) (j : Nat), s.param.wf = true → s.status.busy = false → 0 < j →
    ((s.hostWrite (regWordAddr s.param i 0) w 0b1111).reg i)[j]? = (s.reg i)[j]?

/-- STATUS as the host reads it (R30): BUSY bit 0, DONE bit 1, OVR bit 2, reserved bit 3 and 31:16 read 0, RESULT 7:4
and ERR 15:8 with the codes of R171 and R172. -/
def Obligations.StatusWordLayout : Prop :=
  ∀ t : Status,
    t.word.getLsbD 0 = t.busy ∧ t.word.getLsbD 1 = t.done ∧ t.word.getLsbD 2 = t.ovr ∧ t.word.getLsbD 3 = false ∧
    (t.word.extractLsb' 4 4).toNat =
      (match t.result with | .none => 0 | .value => 1 | .noInv => 2 | .prime => 3 | .composite => 4) ∧
    (t.word.extractLsb' 8 8).toNat =
      (match t.err with
        | .none => 0 | .illegalOpcode => 1 | .reservedField => 2 | .badModulus => 3 | .badExponent => 4
        | .badOperand => 5 | .witness => 6) ∧
    t.word.extractLsb' 16 16 = 0

/-- `irq = STATUS.DONE AND CTRL.IE` at every point: it rises at a completion if IE = 1 and at a CTRL write that sets IE
while DONE = 1, and falls when DONE or IE is cleared: by a CTRL write, a STATUS write, an issue or a reset (R179). -/
def Obligations.IrqIsTheLevelOfDoneAndEnable : Prop :=
  ∀ s t : State,
    (s.irq = true ↔ s.status.done = true ∧ s.ie = true) ∧
    (s.status.busy = true → s.engineStep = .next t → t.status.busy = false → t.irq = s.ie) ∧
    (∀ w : Word, (s.hostWrite 0x008 w 0b1111).irq = (s.status.done && w.getLsbD 0)) ∧
    (∀ w : Word, (s.hostWrite 0x00C w 0b1111).irq = (s.irq && !w.getLsbD 1)) ∧
    (∀ w : Word, s.status.busy = false → (s.hostWrite 0x010 w 0b1111).irq = false) ∧
    s.resetEngine.irq = false
end

