-- ==== Sys2Proof/Laws/Arith.lean ====
section
/-! SUPPORT. What `tdiv` and `trem` are: the library's truncating division and remainder (R9). -/

namespace Sys2Proof.Machine

theorem tdiv_eq (a b : Int) : tdiv a b = Int.tdiv a b := by
  obtain ⟨m, rfl | rfl⟩ := a.eq_nat_or_neg <;> obtain ⟨n, rfl | rfl⟩ := b.eq_nat_or_neg <;>
    rcases Nat.eq_zero_or_pos m with rfl | hm <;> rcases Nat.eq_zero_or_pos n with rfl | hn <;>
    simp [tdiv, Int.neg_tdiv, Int.tdiv_neg, Int.sign_natCast_of_ne_zero, Nat.ne_of_gt, *]

theorem trem_eq (a b : Int) : trem a b = Int.tmod a b := by
  unfold trem
  rw [tdiv_eq, Int.tmod_def]

theorem tdiv_of_nonneg {a : Int} (ha : 0 ≤ a) (b : Int) : tdiv a b = a / b := by
  rw [tdiv_eq, Int.tdiv_eq_ediv_of_nonneg ha]

theorem trem_of_nonneg {a : Int} (ha : 0 ≤ a) (b : Int) : trem a b = a % b := by
  rw [trem_eq, Int.tmod_eq_emod_of_nonneg ha]

/-- "The remainder's sign follows a" and its size is below the divisor's (R9). -/
theorem trem_natAbs_lt (a : Int) {b : Int} (hb : b ≠ 0) : (trem a b).natAbs < b.natAbs := by
  rw [trem_eq, Int.natAbs_tmod]
  exact Nat.mod_lt _ (Int.natAbs_pos.mpr hb)

theorem trem_eq_zero_iff (a b : Int) : trem a b = 0 ↔ b ∣ a := by
  rw [trem_eq]
  exact ⟨Int.dvd_of_tmod_eq_zero, Int.tmod_eq_zero_of_dvd⟩

theorem trem_nonneg {a : Int} (ha : 0 ≤ a) (b : Int) : 0 ≤ trem a b := by
  rw [trem_eq]; exact Int.tmod_nonneg b ha

theorem trem_lt {a b : Int} (ha : 0 ≤ a) (hb : 0 < b) : trem a b < b := by
  rw [trem_of_nonneg ha]; exact Int.emod_lt_of_pos a hb

end Sys2Proof.Machine
end

