-- ==== Sys2Proof/Laws/State.lean ====
section
/-! SUPPORT. One lemma per field per update of the state, and what `State.reg` reads after each. -/

namespace Sys2Proof.Machine

variable (s : State)

-- setReg
@[simp] theorem State.setReg_param (i : RegIx) (r : Reg) : (s.setReg i r).param = s.param := rfl
@[simp] theorem State.setReg_regs (i : RegIx) (r : Reg) : (s.setReg i r).regs = s.regs.set i.toNat r i.isLt := rfl
@[simp] theorem State.setReg_ie (i : RegIx) (r : Reg) : (s.setReg i r).ie = s.ie := rfl
@[simp] theorem State.setReg_status (i : RegIx) (r : Reg) : (s.setReg i r).status = s.status := rfl
@[simp] theorem State.setReg_cmd (i : RegIx) (r : Reg) : (s.setReg i r).cmd = s.cmd := rfl
@[simp] theorem State.setReg_certainty (i : RegIx) (r : Reg) : (s.setReg i r).certainty = s.certainty := rfl
@[simp] theorem State.setReg_info0 (i : RegIx) (r : Reg) : (s.setReg i r).info0 = s.info0 := rfl
@[simp] theorem State.setReg_info1 (i : RegIx) (r : Reg) : (s.setReg i r).info1 = s.info1 := rfl
@[simp] theorem State.setReg_wreq (i : RegIx) (r : Reg) : (s.setReg i r).wreq = s.wreq := rfl
@[simp] theorem State.setReg_witness (i : RegIx) (r : Reg) : (s.setReg i r).witness = s.witness := rfl
@[simp] theorem State.setReg_agenda (i : RegIx) (r : Reg) : (s.setReg i r).agenda = s.agenda := rfl
@[simp] theorem State.setReg_responses (i : RegIx) (r : Reg) : (s.setReg i r).responses = s.responses := rfl
@[simp] theorem State.setReg_draws (i : RegIx) (r : Reg) : (s.setReg i r).draws = s.draws := rfl
@[simp] theorem State.setReg_modelFault (i : RegIx) (r : Reg) : (s.setReg i r).modelFault = s.modelFault := rfl

-- writeResult
@[simp] theorem State.writeResult_param (rd : RegIx) (v : Int) : (s.writeResult rd v).param = s.param := rfl
@[simp] theorem State.writeResult_regs (rd : RegIx) (v : Int) :
    (s.writeResult rd v).regs = s.regs.set rd.toNat (Reg.ofInt s.param.opw32 v) rd.isLt := rfl
@[simp] theorem State.writeResult_ie (rd : RegIx) (v : Int) : (s.writeResult rd v).ie = s.ie := rfl
@[simp] theorem State.writeResult_status (rd : RegIx) (v : Int) : (s.writeResult rd v).status = s.status := rfl
@[simp] theorem State.writeResult_cmd (rd : RegIx) (v : Int) : (s.writeResult rd v).cmd = s.cmd := rfl
@[simp] theorem State.writeResult_certainty (rd : RegIx) (v : Int) :
    (s.writeResult rd v).certainty = s.certainty := rfl
@[simp] theorem State.writeResult_info0 (rd : RegIx) (v : Int) : (s.writeResult rd v).info0 = s.info0 := rfl
@[simp] theorem State.writeResult_info1 (rd : RegIx) (v : Int) : (s.writeResult rd v).info1 = s.info1 := rfl
@[simp] theorem State.writeResult_wreq (rd : RegIx) (v : Int) : (s.writeResult rd v).wreq = s.wreq := rfl
@[simp] theorem State.writeResult_witness (rd : RegIx) (v : Int) : (s.writeResult rd v).witness = s.witness := rfl
@[simp] theorem State.writeResult_agenda (rd : RegIx) (v : Int) : (s.writeResult rd v).agenda = s.agenda := rfl
@[simp] theorem State.writeResult_responses (rd : RegIx) (v : Int) :
    (s.writeResult rd v).responses = s.responses := rfl
@[simp] theorem State.writeResult_draws (rd : RegIx) (v : Int) : (s.writeResult rd v).draws = s.draws := rfl
@[simp] theorem State.writeResult_modelFault (rd : RegIx) (v : Int) :
    (s.writeResult rd v).modelFault = s.modelFault := rfl

-- setWord
@[simp] theorem State.setWord_param (i : RegIx) (j : Nat) (w : Word) : (s.setWord i j w).param = s.param := rfl
@[simp] theorem State.setWord_regs (i : RegIx) (j : Nat) (w : Word) :
    (s.setWord i j w).regs = s.regs.set i.toNat ((s.reg i).set j ⟨w, true⟩) i.isLt := rfl
@[simp] theorem State.setWord_ie (i : RegIx) (j : Nat) (w : Word) : (s.setWord i j w).ie = s.ie := rfl
@[simp] theorem State.setWord_status (i : RegIx) (j : Nat) (w : Word) : (s.setWord i j w).status = s.status := rfl
@[simp] theorem State.setWord_cmd (i : RegIx) (j : Nat) (w : Word) : (s.setWord i j w).cmd = s.cmd := rfl
@[simp] theorem State.setWord_certainty (i : RegIx) (j : Nat) (w : Word) :
    (s.setWord i j w).certainty = s.certainty := rfl
@[simp] theorem State.setWord_info0 (i : RegIx) (j : Nat) (w : Word) : (s.setWord i j w).info0 = s.info0 := rfl
@[simp] theorem State.setWord_info1 (i : RegIx) (j : Nat) (w : Word) : (s.setWord i j w).info1 = s.info1 := rfl
@[simp] theorem State.setWord_wreq (i : RegIx) (j : Nat) (w : Word) : (s.setWord i j w).wreq = s.wreq := rfl
@[simp] theorem State.setWord_witness (i : RegIx) (j : Nat) (w : Word) :
    (s.setWord i j w).witness = s.witness := rfl
@[simp] theorem State.setWord_agenda (i : RegIx) (j : Nat) (w : Word) : (s.setWord i j w).agenda = s.agenda := rfl
@[simp] theorem State.setWord_responses (i : RegIx) (j : Nat) (w : Word) :
    (s.setWord i j w).responses = s.responses := rfl
@[simp] theorem State.setWord_draws (i : RegIx) (j : Nat) (w : Word) : (s.setWord i j w).draws = s.draws := rfl
@[simp] theorem State.setWord_modelFault (i : RegIx) (j : Nat) (w : Word) :
    (s.setWord i j w).modelFault = s.modelFault := rfl

-- issue
@[simp] theorem State.issue_param (w : Word) : (s.issue w).param = s.param := rfl
@[simp] theorem State.issue_regs (w : Word) : (s.issue w).regs = s.regs := rfl
@[simp] theorem State.issue_ie (w : Word) : (s.issue w).ie = s.ie := rfl
@[simp] theorem State.issue_status (w : Word) :
    (s.issue w).status = ⟨true, false, s.status.ovr, .none, .none⟩ := rfl
@[simp] theorem State.issue_cmd (w : Word) : (s.issue w).cmd = w := rfl
@[simp] theorem State.issue_certainty (w : Word) : (s.issue w).certainty = s.certainty := rfl
@[simp] theorem State.issue_info0 (w : Word) : (s.issue w).info0 = 0 := rfl
@[simp] theorem State.issue_info1 (w : Word) : (s.issue w).info1 = 0 := rfl
@[simp] theorem State.issue_wreq (w : Word) : (s.issue w).wreq = s.wreq := rfl
@[simp] theorem State.issue_witness (w : Word) : (s.issue w).witness = s.witness := rfl
@[simp] theorem State.issue_agenda (w : Word) : (s.issue w).agenda = s.agenda := rfl
@[simp] theorem State.issue_responses (w : Word) : (s.issue w).responses = s.responses := rfl
@[simp] theorem State.issue_draws (w : Word) : (s.issue w).draws = s.draws := rfl
@[simp] theorem State.issue_modelFault (w : Word) : (s.issue w).modelFault = s.modelFault := rfl
@[simp] theorem State.issue_reg (w : Word) (i : RegIx) : (s.issue w).reg i = s.reg i := rfl

-- complete
@[simp] theorem State.complete_param (r : ResultCode) (e : ErrCode) (a b : Word) :
    (s.complete r e a b).param = s.param := rfl
@[simp] theorem State.complete_regs (r : ResultCode) (e : ErrCode) (a b : Word) :
    (s.complete r e a b).regs = s.regs := rfl
@[simp] theorem State.complete_ie (r : ResultCode) (e : ErrCode) (a b : Word) :
    (s.complete r e a b).ie = s.ie := rfl
@[simp] theorem State.complete_status (r : ResultCode) (e : ErrCode) (a b : Word) :
    (s.complete r e a b).status = ⟨false, true, s.status.ovr, r, e⟩ := rfl
@[simp] theorem State.complete_cmd (r : ResultCode) (e : ErrCode) (a b : Word) :
    (s.complete r e a b).cmd = s.cmd := rfl
@[simp] theorem State.complete_certainty (r : ResultCode) (e : ErrCode) (a b : Word) :
    (s.complete r e a b).certainty = s.certainty := rfl
@[simp] theorem State.complete_info0 (r : ResultCode) (e : ErrCode) (a b : Word) :
    (s.complete r e a b).info0 = a := rfl
@[simp] theorem State.complete_info1 (r : ResultCode) (e : ErrCode) (a b : Word) :
    (s.complete r e a b).info1 = b := rfl
@[simp] theorem State.complete_wreq (r : ResultCode) (e : ErrCode) (a b : Word) :
    (s.complete r e a b).wreq = none := rfl
@[simp] theorem State.complete_witness (r : ResultCode) (e : ErrCode) (a b : Word) :
    (s.complete r e a b).witness = [] := rfl
@[simp] theorem State.complete_agenda (r : ResultCode) (e : ErrCode) (a b : Word) :
    (s.complete r e a b).agenda = s.agenda := rfl
@[simp] theorem State.complete_responses (r : ResultCode) (e : ErrCode) (a b : Word) :
    (s.complete r e a b).responses = s.responses := rfl
@[simp] theorem State.complete_draws (r : ResultCode) (e : ErrCode) (a b : Word) :
    (s.complete r e a b).draws = s.draws := rfl
@[simp] theorem State.complete_modelFault (r : ResultCode) (e : ErrCode) (a b : Word) :
    (s.complete r e a b).modelFault = s.modelFault := rfl
@[simp] theorem State.complete_reg (r : ResultCode) (e : ErrCode) (a b : Word) (i : RegIx) :
    (s.complete r e a b).reg i = s.reg i := rfl

-- raise
@[simp] theorem State.raise_param (e : ErrCode) (b : Word) : (s.raise e b).param = s.param := rfl
@[simp] theorem State.raise_regs (e : ErrCode) (b : Word) : (s.raise e b).regs = s.regs := rfl
@[simp] theorem State.raise_ie (e : ErrCode) (b : Word) : (s.raise e b).ie = s.ie := rfl
@[simp] theorem State.raise_status (e : ErrCode) (b : Word) :
    (s.raise e b).status = ⟨false, true, s.status.ovr, .none, e⟩ := rfl
@[simp] theorem State.raise_cmd (e : ErrCode) (b : Word) : (s.raise e b).cmd = s.cmd := rfl
@[simp] theorem State.raise_certainty (e : ErrCode) (b : Word) : (s.raise e b).certainty = s.certainty := rfl
@[simp] theorem State.raise_info0 (e : ErrCode) (b : Word) : (s.raise e b).info0 = 0 := rfl
@[simp] theorem State.raise_info1 (e : ErrCode) (b : Word) : (s.raise e b).info1 = b := rfl
@[simp] theorem State.raise_wreq (e : ErrCode) (b : Word) : (s.raise e b).wreq = none := rfl
@[simp] theorem State.raise_witness (e : ErrCode) (b : Word) : (s.raise e b).witness = [] := rfl
@[simp] theorem State.raise_agenda (e : ErrCode) (b : Word) : (s.raise e b).agenda = s.agenda := rfl
@[simp] theorem State.raise_responses (e : ErrCode) (b : Word) : (s.raise e b).responses = s.responses := rfl
@[simp] theorem State.raise_draws (e : ErrCode) (b : Word) : (s.raise e b).draws = s.draws := rfl
@[simp] theorem State.raise_modelFault (e : ErrCode) (b : Word) : (s.raise e b).modelFault = s.modelFault := rfl
@[simp] theorem State.raise_reg (e : ErrCode) (b : Word) (i : RegIx) : (s.raise e b).reg i = s.reg i := rfl

-- ackStatus
@[simp] theorem State.ackStatus_param (w : Word) : (s.ackStatus w).param = s.param := rfl
@[simp] theorem State.ackStatus_regs (w : Word) : (s.ackStatus w).regs = s.regs := rfl
@[simp] theorem State.ackStatus_ie (w : Word) : (s.ackStatus w).ie = s.ie := rfl
@[simp] theorem State.ackStatus_status (w : Word) : (s.ackStatus w).status = s.status.write w := rfl
@[simp] theorem State.ackStatus_cmd (w : Word) : (s.ackStatus w).cmd = s.cmd := rfl
@[simp] theorem State.ackStatus_certainty (w : Word) : (s.ackStatus w).certainty = s.certainty := rfl
@[simp] theorem State.ackStatus_info0 (w : Word) : (s.ackStatus w).info0 = s.info0 := rfl
@[simp] theorem State.ackStatus_info1 (w : Word) : (s.ackStatus w).info1 = s.info1 := rfl
@[simp] theorem State.ackStatus_wreq (w : Word) : (s.ackStatus w).wreq = s.wreq := rfl
@[simp] theorem State.ackStatus_witness (w : Word) : (s.ackStatus w).witness = s.witness := rfl
@[simp] theorem State.ackStatus_agenda (w : Word) : (s.ackStatus w).agenda = s.agenda := rfl
@[simp] theorem State.ackStatus_responses (w : Word) : (s.ackStatus w).responses = s.responses := rfl
@[simp] theorem State.ackStatus_draws (w : Word) : (s.ackStatus w).draws = s.draws := rfl
@[simp] theorem State.ackStatus_modelFault (w : Word) : (s.ackStatus w).modelFault = s.modelFault := rfl
@[simp] theorem State.ackStatus_reg (w : Word) (i : RegIx) : (s.ackStatus w).reg i = s.reg i := rfl

-- dropWrite
@[simp] theorem State.dropWrite_param : (s.dropWrite).param = s.param := rfl
@[simp] theorem State.dropWrite_regs : (s.dropWrite).regs = s.regs := rfl
@[simp] theorem State.dropWrite_ie : (s.dropWrite).ie = s.ie := rfl
@[simp] theorem State.dropWrite_status : (s.dropWrite).status = { s.status with ovr := true } := rfl
@[simp] theorem State.dropWrite_cmd : (s.dropWrite).cmd = s.cmd := rfl
@[simp] theorem State.dropWrite_certainty : (s.dropWrite).certainty = s.certainty := rfl
@[simp] theorem State.dropWrite_info0 : (s.dropWrite).info0 = s.info0 := rfl
@[simp] theorem State.dropWrite_info1 : (s.dropWrite).info1 = s.info1 := rfl
@[simp] theorem State.dropWrite_wreq : (s.dropWrite).wreq = s.wreq := rfl
@[simp] theorem State.dropWrite_witness : (s.dropWrite).witness = s.witness := rfl
@[simp] theorem State.dropWrite_agenda : (s.dropWrite).agenda = s.agenda := rfl
@[simp] theorem State.dropWrite_responses : (s.dropWrite).responses = s.responses := rfl
@[simp] theorem State.dropWrite_draws : (s.dropWrite).draws = s.draws := rfl
@[simp] theorem State.dropWrite_modelFault : (s.dropWrite).modelFault = s.modelFault := rfl
@[simp] theorem State.dropWrite_reg (i : RegIx) : (s.dropWrite).reg i = s.reg i := rfl

-- respond
@[simp] theorem State.respond_param (r : Response) : (s.respond r).param = s.param := rfl
@[simp] theorem State.respond_regs (r : Response) : (s.respond r).regs = s.regs := rfl
@[simp] theorem State.respond_ie (r : Response) : (s.respond r).ie = s.ie := rfl
@[simp] theorem State.respond_status (r : Response) : (s.respond r).status = s.status := rfl
@[simp] theorem State.respond_cmd (r : Response) : (s.respond r).cmd = s.cmd := rfl
@[simp] theorem State.respond_certainty (r : Response) : (s.respond r).certainty = s.certainty := rfl
@[simp] theorem State.respond_info0 (r : Response) : (s.respond r).info0 = s.info0 := rfl
@[simp] theorem State.respond_info1 (r : Response) : (s.respond r).info1 = s.info1 := rfl
@[simp] theorem State.respond_wreq (r : Response) : (s.respond r).wreq = s.wreq := rfl
@[simp] theorem State.respond_witness (r : Response) : (s.respond r).witness = s.witness := rfl
@[simp] theorem State.respond_agenda (r : Response) : (s.respond r).agenda = s.agenda := rfl
@[simp] theorem State.respond_responses (r : Response) : (s.respond r).responses = r :: s.responses := rfl
@[simp] theorem State.respond_draws (r : Response) : (s.respond r).draws = s.draws := rfl
@[simp] theorem State.respond_modelFault (r : Response) : (s.respond r).modelFault = s.modelFault := rfl
@[simp] theorem State.respond_reg (r : Response) (i : RegIx) : (s.respond r).reg i = s.reg i := rfl

-- resetEngine
@[simp] theorem State.resetEngine_param : (s.resetEngine).param = s.param := rfl
@[simp] theorem State.resetEngine_regs : (s.resetEngine).regs =
    Vector.ofFn fun i => Reg.unspecified s.param s.draws (BitVec.ofFin i) := rfl
@[simp] theorem State.resetEngine_ie : (s.resetEngine).ie = false := rfl
@[simp] theorem State.resetEngine_status : (s.resetEngine).status = ⟨false, false, false, .none, .none⟩ := rfl
@[simp] theorem State.resetEngine_cmd : (s.resetEngine).cmd = 0 := rfl
@[simp] theorem State.resetEngine_certainty : (s.resetEngine).certainty = Config.certReset := rfl
@[simp] theorem State.resetEngine_info0 : (s.resetEngine).info0 = 0 := rfl
@[simp] theorem State.resetEngine_info1 : (s.resetEngine).info1 = 0 := rfl
@[simp] theorem State.resetEngine_wreq : (s.resetEngine).wreq = none := rfl
@[simp] theorem State.resetEngine_witness : (s.resetEngine).witness = [] := rfl
@[simp] theorem State.resetEngine_agenda : (s.resetEngine).agenda = s.agenda := rfl
@[simp] theorem State.resetEngine_responses : (s.resetEngine).responses = s.responses := rfl
@[simp] theorem State.resetEngine_draws : (s.resetEngine).draws = s.draws + 1 := rfl
@[simp] theorem State.resetEngine_modelFault : (s.resetEngine).modelFault = s.modelFault := rfl

-- countDraw
@[simp] theorem State.countDraw_param (b : Bool) : (s.countDraw b).param = s.param := by cases b <;> rfl
@[simp] theorem State.countDraw_regs (b : Bool) : (s.countDraw b).regs = s.regs := by cases b <;> rfl
@[simp] theorem State.countDraw_ie (b : Bool) : (s.countDraw b).ie = s.ie := by cases b <;> rfl
@[simp] theorem State.countDraw_status (b : Bool) : (s.countDraw b).status = s.status := by cases b <;> rfl
@[simp] theorem State.countDraw_cmd (b : Bool) : (s.countDraw b).cmd = s.cmd := by cases b <;> rfl
@[simp] theorem State.countDraw_certainty (b : Bool) : (s.countDraw b).certainty = s.certainty := by cases b <;> rfl
@[simp] theorem State.countDraw_info0 (b : Bool) : (s.countDraw b).info0 = s.info0 := by cases b <;> rfl
@[simp] theorem State.countDraw_info1 (b : Bool) : (s.countDraw b).info1 = s.info1 := by cases b <;> rfl
@[simp] theorem State.countDraw_wreq (b : Bool) : (s.countDraw b).wreq = s.wreq := by cases b <;> rfl
@[simp] theorem State.countDraw_witness (b : Bool) : (s.countDraw b).witness = s.witness := by cases b <;> rfl
@[simp] theorem State.countDraw_agenda (b : Bool) : (s.countDraw b).agenda = s.agenda := by cases b <;> rfl
@[simp] theorem State.countDraw_responses (b : Bool) : (s.countDraw b).responses = s.responses := by cases b <;> rfl
@[simp] theorem State.countDraw_draws (b : Bool) : (s.countDraw b).draws = if b then s.draws + 1 else s.draws := by
  cases b <;> rfl
@[simp] theorem State.countDraw_modelFault (b : Bool) :
    (s.countDraw b).modelFault = s.modelFault := by cases b <;> rfl
@[simp] theorem State.countDraw_reg (b : Bool) (i : RegIx) : (s.countDraw b).reg i = s.reg i := by cases b <;> rfl

-- noteSources
@[simp] theorem State.noteSources_param (l : List RegIx) : (s.noteSources l).param = s.param := rfl
@[simp] theorem State.noteSources_regs (l : List RegIx) : (s.noteSources l).regs = s.regs := rfl
@[simp] theorem State.noteSources_ie (l : List RegIx) : (s.noteSources l).ie = s.ie := rfl
@[simp] theorem State.noteSources_status (l : List RegIx) : (s.noteSources l).status = s.status := rfl
@[simp] theorem State.noteSources_cmd (l : List RegIx) : (s.noteSources l).cmd = s.cmd := rfl
@[simp] theorem State.noteSources_certainty (l : List RegIx) : (s.noteSources l).certainty = s.certainty := rfl
@[simp] theorem State.noteSources_info0 (l : List RegIx) : (s.noteSources l).info0 = s.info0 := rfl
@[simp] theorem State.noteSources_info1 (l : List RegIx) : (s.noteSources l).info1 = s.info1 := rfl
@[simp] theorem State.noteSources_wreq (l : List RegIx) : (s.noteSources l).wreq = s.wreq := rfl
@[simp] theorem State.noteSources_witness (l : List RegIx) : (s.noteSources l).witness = s.witness := rfl
@[simp] theorem State.noteSources_agenda (l : List RegIx) : (s.noteSources l).agenda = s.agenda := rfl
@[simp] theorem State.noteSources_responses (l : List RegIx) : (s.noteSources l).responses = s.responses := rfl
@[simp] theorem State.noteSources_draws (l : List RegIx) : (s.noteSources l).draws = s.draws := rfl
@[simp] theorem State.noteSources_modelFault (l : List RegIx) :
    (s.noteSources l).modelFault = (s.modelFault || !s.sourcesWritten l) := rfl
@[simp] theorem State.noteSources_reg (l : List RegIx) (i : RegIx) : (s.noteSources l).reg i = s.reg i := rfl

-- answerWitness
@[simp] theorem State.answerWitness_param (e : Bool) (d : Nat) : (s.answerWitness e d).param = s.param := by
  unfold State.answerWitness; split <;> rfl
@[simp] theorem State.answerWitness_regs (e : Bool) (d : Nat) : (s.answerWitness e d).regs = s.regs := by
  unfold State.answerWitness; split <;> rfl
@[simp] theorem State.answerWitness_ie (e : Bool) (d : Nat) : (s.answerWitness e d).ie = s.ie := by
  unfold State.answerWitness; split <;> rfl
@[simp] theorem State.answerWitness_status (e : Bool) (d : Nat) : (s.answerWitness e d).status = s.status := by
  unfold State.answerWitness; split <;> rfl
@[simp] theorem State.answerWitness_cmd (e : Bool) (d : Nat) : (s.answerWitness e d).cmd = s.cmd := by
  unfold State.answerWitness; split <;> rfl
@[simp] theorem State.answerWitness_certainty (e : Bool) (d : Nat) : (s.answerWitness e d).certainty = s.certainty := by
  unfold State.answerWitness; split <;> rfl
@[simp] theorem State.answerWitness_info0 (e : Bool) (d : Nat) : (s.answerWitness e d).info0 = s.info0 := by
  unfold State.answerWitness; split <;> rfl
@[simp] theorem State.answerWitness_info1 (e : Bool) (d : Nat) : (s.answerWitness e d).info1 = s.info1 := by
  unfold State.answerWitness; split <;> rfl
@[simp] theorem State.answerWitness_agenda (e : Bool) (d : Nat) : (s.answerWitness e d).agenda = s.agenda := by
  unfold State.answerWitness; split <;> rfl
@[simp] theorem State.answerWitness_responses (e : Bool) (d : Nat) : (s.answerWitness e d).responses = s.responses := by
  unfold State.answerWitness; split <;> rfl
@[simp] theorem State.answerWitness_draws (e : Bool) (d : Nat) : (s.answerWitness e d).draws = s.draws := by
  unfold State.answerWitness; split <;> rfl
@[simp] theorem State.answerWitness_modelFault (e : Bool) (d : Nat) : (s.answerWitness e d).modelFault = s.modelFault := by
  unfold State.answerWitness; split <;> rfl
@[simp] theorem State.answerWitness_reg (e : Bool) (d : Nat) (i : RegIx) :
    (s.answerWitness e d).reg i = s.reg i := by
  simp [State.reg]

-- the operand registers
@[simp] theorem State.reg_setReg_self (i : RegIx) (r : Reg) : (s.setReg i r).reg i = r := by
  simp [State.reg, State.setReg]

theorem State.reg_setReg_of_ne {i k : RegIx} (h : i ≠ k) (r : Reg) : (s.setReg i r).reg k = s.reg k := by
  have : i.toNat ≠ k.toNat := fun e => h (BitVec.eq_of_toNat_eq e)
  simp [State.reg, State.setReg, this]

theorem State.reg_setReg (i k : RegIx) (r : Reg) :
    (s.setReg i r).reg k = if i = k then r else s.reg k := by
  split
  · next h => subst h; simp
  · next h => exact s.reg_setReg_of_ne h r

@[simp] theorem State.reg_writeResult_self (rd : RegIx) (v : Int) :
    (s.writeResult rd v).reg rd = Reg.ofInt s.param.opw32 v := s.reg_setReg_self rd _

theorem State.reg_writeResult_of_ne {rd k : RegIx} (h : rd ≠ k) (v : Int) :
    (s.writeResult rd v).reg k = s.reg k := s.reg_setReg_of_ne h _

@[simp] theorem State.reg_setWord_self (i : RegIx) (j : Nat) (w : Word) :
    (s.setWord i j w).reg i = (s.reg i).set j ⟨w, true⟩ := s.reg_setReg_self i _

theorem State.reg_setWord_of_ne {i k : RegIx} (h : i ≠ k) (j : Nat) (w : Word) :
    (s.setWord i j w).reg k = s.reg k := s.reg_setReg_of_ne h _

@[simp] theorem State.reg_resetEngine (i : RegIx) :
    s.resetEngine.reg i = Reg.unspecified s.param s.draws i := by
  simp only [State.reg, State.resetEngine_regs, Vector.getElem_ofFn]
  rfl

@[simp] theorem State.reg_powerOn (p : Params) (i : RegIx) : (State.powerOn p).reg i = Reg.unwritten p := by
  simp [State.reg, State.powerOn]

end Sys2Proof.Machine
end

