-- ==== Sys2Proof/Laws/Operands.lean ====
section
/-! SUPPORT. The operand registers: lengths, the written-word map, `val` of `enc_OPW(v)` (R10, R21, R52, R106), and what
reading sources records (R24), and the width of a witness answer (R69). -/

namespace Sys2Proof.Machine

@[simp] theorem length_encWords (n : Nat) (v : Int) : (encWords n v).length = n := by
  induction n generalizing v with
  | zero => rfl
  | succ n ih => simp [encWords, ih]

@[simp] theorem Reg.length_ofInt (n : Nat) (v : Int) : (Reg.ofInt n v).length = n := by simp [Reg.ofInt]

@[simp] theorem Reg.allWritten_ofInt (n : Nat) (v : Int) : (Reg.ofInt n v).allWritten = true := by
  simp [Reg.allWritten, Reg.ofInt]

@[simp] theorem Reg.length_unwritten (p : Params) : (Reg.unwritten p).length = p.opw32 := by
  simp [Reg.unwritten]

@[simp] theorem Reg.length_unspecified (p : Params) (k : Nat) (i : RegIx) :
    (Reg.unspecified p k i).length = p.opw32 := by
  simp [Reg.unspecified]

/-- After a reset no word counts as written, whatever it holds. -/
theorem Reg.written_of_mem_unspecified {p : Params} {k : Nat} {i : RegIx} {x : RegWord}
    (h : x ∈ Reg.unspecified p k i) : x.written = false := by
  obtain ⟨j, -, rfl⟩ := List.mem_map.mp h
  rfl

theorem Reg.map_bits_ofInt (n : Nat) (v : Int) : (Reg.ofInt n v).map RegWord.bits = encWords n v := by
  simp [Reg.ofInt, Function.comp_def]

theorem wordsVal_cons {ws : List Word} (h : ws ≠ []) (w : Word) :
    wordsVal (w :: ws) = (w.toNat : Int) + 4294967296 * wordsVal ws := by
  cases ws with
  | nil => exact absurd rfl h
  | cons v ws => rfl

/-- `val` of the words of `enc_OPW(v)` is `v`, for every `v` in the range of R21. -/
theorem wordsVal_encWords (n : Nat) (v : Int) (hn : 0 < n)
    (hlo : -(2 ^ (32 * n - 1) : Int) ≤ v) (hhi : v < (2 ^ (32 * n - 1) : Int)) :
    wordsVal (encWords n v) = v := by
  induction n generalizing v with
  | zero => omega
  | succ n ih =>
    by_cases h0 : n = 0
    · subst h0
      have e : wordsVal (encWords (0 + 1) v) = (BitVec.ofInt 32 v).toInt := rfl
      rw [e]
      exact BitVec.toInt_ofInt_eq_self (by decide) (by simpa using hlo) (by simpa using hhi)
    · have e : (2 : Int) ^ (32 * (n + 1) - 1) = 4294967296 * 2 ^ (32 * n - 1) := by
        rw [show 32 * (n + 1) - 1 = 32 + (32 * n - 1) by omega, pow_add]; norm_num
      rw [e] at hlo hhi
      have hne : encWords n (v / 4294967296) ≠ [] := by
        intro h; have := congrArg List.length h; simp at this; omega
      have hw : ((BitVec.ofInt 32 v).toNat : Int) = v % 4294967296 := by
        rw [BitVec.toNat_ofInt]; norm_num; omega
      rw [encWords, wordsVal_cons hne, hw, ih _ (by omega) (by omega) (by omega)]
      omega

theorem Reg.val_ofInt {n : Nat} {v : Int} (hn : 0 < n)
    (hlo : -(2 ^ (32 * n - 1) : Int) ≤ v) (hhi : v < (2 ^ (32 * n - 1) : Int)) :
    (Reg.ofInt n v).val = v := by
  rw [Reg.val, Reg.map_bits_ofInt, wordsVal_encWords n v hn hlo hhi]

/-- The value of words lies in the range of R21. -/
theorem wordsVal_range (ws : List Word) (h : ws ≠ []) :
    -(2 ^ (32 * ws.length - 1) : Int) ≤ wordsVal ws ∧ wordsVal ws < (2 ^ (32 * ws.length - 1) : Int) := by
  induction ws with
  | nil => exact absurd rfl h
  | cons w ws ih =>
    cases ws with
    | nil =>
      have h1 := BitVec.le_toInt w
      have h2 := BitVec.toInt_lt (x := w)
      simpa [wordsVal] using And.intro h1 h2
    | cons v ws =>
      obtain ⟨h1, h2⟩ := ih (by simp)
      have e : (2 : Int) ^ (32 * (w :: v :: ws).length - 1) = 4294967296 * 2 ^ (32 * (v :: ws).length - 1) := by
        rw [show 32 * (w :: v :: ws).length - 1 = 32 + (32 * (v :: ws).length - 1) by simp; omega, pow_add]; norm_num
      have hw := w.isLt
      rw [wordsVal_cons (by simp), e]
      constructor <;> omega

theorem Reg.val_range (r : Reg) (h : r ≠ []) :
    -(2 ^ (32 * r.length - 1) : Int) ≤ r.val ∧ r.val < (2 ^ (32 * r.length - 1) : Int) := by
  simpa [Reg.val] using wordsVal_range (r.map RegWord.bits) (by simpa using h)

variable {s : State} {l : List RegIx}

theorem State.sourcesWritten_iff : s.sourcesWritten l = true ↔ ∀ i ∈ l, (s.reg i).allWritten = true := by
  simp [State.sourcesWritten]

theorem State.sourcesWritten_eq_false_iff :
    s.sourcesWritten l = false ↔ ∃ i ∈ l, ∃ x ∈ s.reg i, x.written = false := by
  simp [State.sourcesWritten, Reg.allWritten]

/-- Reading sources that are wholly written records nothing. -/
theorem State.noteSources_of_written (h : s.sourcesWritten l = true) : s.noteSources l = s := by
  simp [State.noteSources, h]

/-- Reading sources that are not wholly written records the model fault, and nothing else. -/
theorem State.noteSources_of_unwritten (h : s.sourcesWritten l = false) :
    s.noteSources l = { s with modelFault := true } := by
  simp [State.noteSources, h]

/-! ### The witness port -/

/-- An answer carries a value of OPW bits (R69). -/
theorem witnessAnswer_range {opw wData : Nat} {wErr : Bool} {v : Int} (h : witnessAnswer opw wErr wData = .ok v) :
    -(2 ^ (opw - 1) : Int) ≤ v ∧ v < 2 ^ (opw - 1) := by
  cases wErr with
  | true => simp [witnessAnswer] at h
  | false =>
    simp only [witnessAnswer, Bool.false_eq_true, if_false, WitnessAnswer.ok.injEq] at h
    subst h
    exact ⟨BitVec.le_toInt _, BitVec.toInt_lt⟩

end Sys2Proof.Machine
end

