-- ==== Sys2Proof/Laws/Ops.lean ====
section
/-! SUPPORT. What each shared operation and each meaning can do, said once: the three `exec` arms, the engine's step, a
transaction, and the moves of a step. -/

namespace Sys2Proof.Machine

variable {s t : State}

/-! ### The meanings: they always answer a next state -/

theorem exec_modpow (s : State) (rd rs1 rs2 rs3 : RegIx) :
    exec (.modpow rd rs1 rs2 rs3) s = .next
      ((s.noteSources [rs1, rs2, rs3]).finishModpow rd (s.reg rs1).val (s.reg rs2).val (s.reg rs3).val) := rfl

theorem exec_modinv (s : State) (rd rs1 rs2 : RegIx) :
    exec (.modinv rd rs1 rs2) s =
      .next ((s.noteSources [rs1, rs2]).finishModinv rd (s.reg rs1).val (s.reg rs2).val) := rfl

theorem exec_primetest (s : State) (rs1 : RegIx) :
    exec (.primetest rs1) s = .next ((s.noteSources [rs1]).finishPrimetest (s.reg rs1).val) := rfl

theorem exec_modpow_of_written {rd rs1 rs2 rs3 : RegIx} (h1 : (s.reg rs1).allWritten = true)
    (h2 : (s.reg rs2).allWritten = true) (h3 : (s.reg rs3).allWritten = true) :
    exec (.modpow rd rs1 rs2 rs3) s =
      .next (s.finishModpow rd (s.reg rs1).val (s.reg rs2).val (s.reg rs3).val) := by
  rw [exec_modpow, State.noteSources_of_written (State.sourcesWritten_iff.mpr (by simp [h1, h2, h3]))]

theorem exec_modinv_of_written {rd rs1 rs2 : RegIx} (h1 : (s.reg rs1).allWritten = true)
    (h2 : (s.reg rs2).allWritten = true) :
    exec (.modinv rd rs1 rs2) s = .next (s.finishModinv rd (s.reg rs1).val (s.reg rs2).val) := by
  rw [exec_modinv, State.noteSources_of_written (State.sourcesWritten_iff.mpr (by simp [h1, h2]))]

theorem exec_primetest_of_written {rs1 : RegIx} (h1 : (s.reg rs1).allWritten = true) :
    exec (.primetest rs1) s = .next (s.finishPrimetest (s.reg rs1).val) := by
  rw [exec_primetest, State.noteSources_of_written (State.sourcesWritten_iff.mpr (by simp [h1]))]

/-! ### The finishing operations: one case for each way they end -/

theorem State.finishModpow_cases (s : State) (rd : RegIx) (b e m : Int) :
    (m ≤ 0 ∧ s.finishModpow rd b e m = s.raise .badModulus 0) ∨
    (0 < m ∧ e < 0 ∧ s.finishModpow rd b e m = s.raise .badExponent 0) ∨
    (0 < m ∧ 0 ≤ e ∧ s.finishModpow rd b e m =
      (s.writeResult rd (modPow s.param.kWin b e m)).complete .value .none 0 0) := by
  unfold State.finishModpow
  split
  · exact .inl ⟨‹_›, rfl⟩
  · split
    · exact .inr (.inl ⟨by omega, ‹_›, rfl⟩)
    · exact .inr (.inr ⟨by omega, by omega, rfl⟩)

theorem State.finishModinv_cases (s : State) (rd : RegIx) (a n : Int) :
    (n ≤ 1 ∧ s.finishModinv rd a n = s.raise .badModulus 0) ∨
    (1 < n ∧ a < 0 ∧ s.finishModinv rd a n = s.raise .badOperand 0) ∨
    (1 < n ∧ 0 ≤ a ∧ (modInv a n).1 = none ∧
      s.finishModinv rd a n = s.complete .noInv .none 0 (BitVec.ofNat 32 (modInv a n).2)) ∨
    (1 < n ∧ 0 ≤ a ∧ ∃ x, (modInv a n).1 = some x ∧
      s.finishModinv rd a n = (s.writeResult rd x).complete .value .none 0 (BitVec.ofNat 32 (modInv a n).2)) := by
  unfold State.finishModinv
  split
  · exact .inl ⟨‹_›, rfl⟩
  · split
    · exact .inr (.inl ⟨by omega, ‹_›, rfl⟩)
    · rcases h : modInv a n with ⟨_ | x, iters⟩
      · exact .inr (.inr (.inl ⟨by omega, by omega, rfl, rfl⟩))
      · exact .inr (.inr (.inr ⟨by omega, by omega, x, rfl, rfl⟩))

theorem State.finishPrimetest_cases (s : State) (n : Int) :
    (n < 0 ∧ s.finishPrimetest n = s.raise .badOperand 0) ∨
    (0 ≤ n ∧ s.finishPrimetest n =
      s.report n (primeTest s.param.kWin s.param.mrLim n s.certainty.toNat s.witness)) := by
  unfold State.finishPrimetest
  split
  · exact .inl ⟨‹_›, rfl⟩
  · exact .inr ⟨by omega, rfl⟩

/-- What a command can do: it reads its sources, and then it completes without writing an operand register, or
completes with its destination written, or is a PRIMETEST that waits for a witness. -/
theorem exec_cases (i : Instr) (s : State) :
    (∃ r e a b, r ≠ .value ∧ exec i s = .next ((s.noteSources i.sources).complete r e a b)) ∨
    (∃ rd v b, i.dest = some rd ∧
      exec i s = .next (((s.noteSources i.sources).writeResult rd v).complete .value .none 0 b)) ∨
    ∃ rs1 q, i = .primetest rs1 ∧ exec i s = .next { s.noteSources i.sources with wreq := some q } := by
  cases i with
  | modpow rd rs1 rs2 rs3 =>
    rw [exec_modpow]
    rcases State.finishModpow_cases (s.noteSources [rs1, rs2, rs3]) rd (s.reg rs1).val (s.reg rs2).val
      (s.reg rs3).val with ⟨-, e⟩ | ⟨-, -, e⟩ | ⟨-, -, e⟩ <;> rw [e]
    · exact .inl ⟨_, _, _, _, by decide, rfl⟩
    · exact .inl ⟨_, _, _, _, by decide, rfl⟩
    · exact .inr (.inl ⟨rd, _, _, rfl, rfl⟩)
  | modinv rd rs1 rs2 =>
    rw [exec_modinv]
    rcases State.finishModinv_cases (s.noteSources [rs1, rs2]) rd (s.reg rs1).val (s.reg rs2).val with
      ⟨-, e⟩ | ⟨-, -, e⟩ | ⟨-, -, -, e⟩ | ⟨-, -, x, -, e⟩ <;> rw [e]
    · exact .inl ⟨_, _, _, _, by decide, rfl⟩
    · exact .inl ⟨_, _, _, _, by decide, rfl⟩
    · exact .inl ⟨_, _, _, _, by decide, rfl⟩
    · exact .inr (.inl ⟨rd, _, _, rfl, rfl⟩)
  | primetest rs1 =>
    rw [exec_primetest]
    rcases State.finishPrimetest_cases (s.noteSources [rs1]) (s.reg rs1).val with ⟨-, e⟩ | ⟨-, e⟩ <;> rw [e]
    · exact .inl ⟨_, _, _, _, by decide, rfl⟩
    · cases primeTest (s.noteSources [rs1]).param.kWin (s.noteSources [rs1]).param.mrLim (s.reg rs1).val
        (s.noteSources [rs1]).certainty.toNat (s.noteSources [rs1]).witness with
      | waiting i => exact .inr (.inr ⟨rs1, _, rfl, rfl⟩)
      | _ => exact .inl ⟨_, _, _, _, by decide, rfl⟩

/-- The same, of the next state it answers. -/
theorem exec_eq_next_cases {i : Instr} (h : exec i s = .next t) :
    (∃ r e a b, r ≠ .value ∧ t = (s.noteSources i.sources).complete r e a b) ∨
    (∃ rd v b, i.dest = some rd ∧
      t = ((s.noteSources i.sources).writeResult rd v).complete .value .none 0 b) ∨
    ∃ rs1 q, i = .primetest rs1 ∧ t = { s.noteSources i.sources with wreq := some q } := by
  rcases exec_cases i s with ⟨r, e, a, b, hr, h'⟩ | ⟨rd, v, b, hd, h'⟩ | ⟨rs1, q, hi, h'⟩ <;>
    rw [h'] at h <;> cases h
  · exact .inl ⟨r, e, a, b, hr, rfl⟩
  · exact .inr (.inl ⟨rd, v, b, hd, rfl⟩)
  · exact .inr (.inr ⟨rs1, q, hi, rfl⟩)

/-! ### The engine's step and the moves -/

theorem State.engineStep_idle (h : s.status.busy = false) : s.engineStep = .next s := by
  simp [State.engineStep, h]

theorem State.engineStep_command {i : Instr} (h : s.status.busy = true) (hd : decode s.cmd = .ok i) :
    s.engineStep = exec i s := by
  simp [State.engineStep, h, hd]

/-- What the engine's step can do when it answers a next state: nothing while idle, a decode error, or a command. -/
theorem State.engineStep_cases (h : s.engineStep = .next t) :
    (s.status.busy = false ∧ t = s) ∨
    (s.status.busy = true ∧ decode s.cmd = .error .illegalOpcode ∧ t = s.raise .illegalOpcode 0) ∨
    (s.status.busy = true ∧ decode s.cmd = .error .reservedField ∧ t = s.raise .reservedField 0) ∨
    (s.status.busy = true ∧ ∃ i, decode s.cmd = .ok i ∧ exec i s = .next t) := by
  cases hb : s.status.busy with
  | false => rw [State.engineStep_idle hb] at h; cases h; exact .inl ⟨rfl, rfl⟩
  | true =>
    rcases hd : decode s.cmd with (_ | _) | i
    · simp [State.engineStep, hb, hd] at h; exact .inr (.inl ⟨rfl, rfl, h.symm⟩)
    · simp [State.engineStep, hb, hd] at h; exact .inr (.inr (.inl ⟨rfl, rfl, h.symm⟩))
    · rw [State.engineStep_command hb hd] at h; exact .inr (.inr (.inr ⟨rfl, i, rfl, h⟩))

theorem step_nil (h : s.agenda = []) : step s = s.engineStep := by
  simp [step, State.advance, h]

theorem step_cons {m : Move} {rest : List Move} (h : s.agenda = m :: rest) :
    step s = State.move { s with agenda := rest } m := by
  simp [step, State.advance, h]

/-! ### The host port -/

theorem target_param (p : Params) : target p 0x004 = some .param := by simp [target, controlTarget]
theorem target_ctrl (p : Params) : target p 0x008 = some .ctrl := by simp [target, controlTarget]
theorem target_status (p : Params) : target p 0x00C = some .status := by simp [target, controlTarget]
theorem target_cmd (p : Params) : target p 0x010 = some .cmd := by simp [target, controlTarget]
theorem target_certainty (p : Params) : target p 0x014 = some .certainty := by simp [target, controlTarget]

/-- A write the busy interlock covers, or one that does something (R56). -/
theorem State.portWrite_cases (s : State) (w : Word) (g : Target) :
    s.portWrite w g = s ∨ s.portWrite w g = { s with ie := w.getLsbD 0 } ∨ s.portWrite w g = s.ackStatus w ∨
    (s.status.busy = true ∧ s.portWrite w g = s.dropWrite) ∨
    (s.status.busy = false ∧
      (s.portWrite w g = s.issue w ∨ s.portWrite w g = { s with certainty := w } ∨
        ∃ i j, g = .regWord i j ∧ s.portWrite w g = s.setWord i j w)) := by
  cases hb : s.status.busy <;> cases g <;> simp [State.portWrite, hb]

theorem State.hostWrite_cases (s : State) (a : Addr) (w : Word) (strb : BitVec 4) :
    s.hostWrite a w strb = s.respond (.write true) ∨
    ∃ g, strb = 0b1111 ∧ target s.param a = some g ∧
      s.hostWrite a w strb = (s.portWrite w g).respond (.write false) := by
  unfold State.hostWrite
  split
  · next hs =>
    rcases hg : target s.param a with _ | g
    · exact .inl rfl
    · exact .inr ⟨g, hs, rfl, rfl⟩
  · exact .inl rfl

theorem State.hostRead_cases (s : State) (a : Addr) :
    (target s.param a = none ∧ s.hostRead a = s.respond (.read 0 true)) ∨
    ∃ g, target s.param a = some g ∧
      s.hostRead a = (s.countDraw (s.takesDraw g)).respond (.read (s.portData g) false) := by
  unfold State.hostRead
  rcases hg : target s.param a with _ | g
  · exact .inl ⟨rfl, rfl⟩
  · exact .inr ⟨g, rfl, rfl⟩

end Sys2Proof.Machine
end

