-- ==== Sys2Proof/Laws/PerInstr.lean ====
section
/-! SUPPORT. Statements made for every command, one lemma per constructor: the encoding of a command matches its own row
of spec/opcode_table.json (R83). -/

namespace Sys2Proof.Laws

/-- The encoded word matches the command's row of the opcode table, and that row stands in the table. -/
def TableRow.Statement (i : Instr) : Prop :=
  i.row ∈ opcodeTable ∧ encode i &&& i.row.mask = i.row.pattern

/-- The fixed bits of MODPOW: OPC and RSV (R80). -/
theorem TableRow.modpow (rd rs1 rs2 rs3 : RegIx) : TableRow.Statement (.modpow rd rs1 rs2 rs3) := by
  refine ⟨by simp [opcodeTable, Instr.row], ?_⟩
  apply BitVec.eq_of_getLsbD_eq
  intro k hk
  simp only [encode, Instr.row, commandWord]
  interval_cases k <;> simp

/-- The fixed bits of MODINV: OPC, RS3 and RSV (R80, R83). -/
theorem TableRow.modinv (rd rs1 rs2 : RegIx) : TableRow.Statement (.modinv rd rs1 rs2) := by
  refine ⟨by simp [opcodeTable, Instr.row], ?_⟩
  apply BitVec.eq_of_getLsbD_eq
  intro k hk
  simp only [encode, Instr.row, commandWord]
  interval_cases k <;> simp

/-- The fixed bits of PRIMETEST: OPC, RD, RS2, RS3 and RSV (R80, R83). -/
theorem TableRow.primetest (rs1 : RegIx) : TableRow.Statement (.primetest rs1) := by
  refine ⟨by simp [opcodeTable, Instr.row], ?_⟩
  apply BitVec.eq_of_getLsbD_eq
  intro k hk
  simp only [encode, Instr.row, commandWord]
  interval_cases k <;> simp

end Sys2Proof.Laws
end

