-- ==== Sys2Proof/Tests/Slice0.lean ====
section
/-! SUPPORT. The model's own tests, expected values from 95_test_vectors.md and the worked examples of the rules, and
for every statement with hypotheses a state and operands that meet them. -/

namespace Sys2Proof.Tests

open Sys2Proof Sys2Proof.Machine

/-! ## Helpers -/

/-- A small instance: OPW = 64, the least R6 allows. -/
def small (lim : MrLimit) : Params := ⟨2, 5, lim⟩

/-- An idle engine of the small instance with values written to some registers. -/
def tinyOf (lim : MrLimit) (l : List (RegIx × Int)) : State :=
  l.foldl (fun s x => s.setReg x.1 (Reg.ofInt 2 x.2)) (State.powerOn (small lim))

/-- The same with the reference MR_SQ_LIMIT. -/
def tiny (l : List (RegIx × Int)) : State := tinyOf .sMinus2 l

/-- A PRIMETEST candidate in R7, a CERTAINTY and answers, the command in flight. -/
def candidate (lim : MrLimit) (n : Int) (c : Word) (answers : List WitnessAnswer) : State :=
  { (tinyOf lim [(7, n)]).issue 0x00007003 with certainty := c, witness := answers }

/-- The outcome registers and one operand value of a next state. -/
def outcome (r : RegIx) : Host.Outcome State Fault Refusal → Option (Word × Word × Word × Int)
  | .next t => some (t.status.word, t.info0, t.info1, (t.reg r).val)
  | _       => none

/-- Whether an outcome is a next state. -/
def isNext : Host.Outcome State Fault Refusal → Bool
  | .next _ => true
  | _       => false

/-- The next state, or the given one. -/
def nextOf (s : State) : Host.Outcome State Fault Refusal → State
  | .next t => t
  | _       => s

/-! ## Well-formedness: one ill-formed term for each check -/

theorem test_wf_reference : Config.reference.wf = true := by decide
theorem test_wf_opw_low : Params.wf ⟨1, 5, .sMinus2⟩ = false := by decide
theorem test_wf_opw_high : Params.wf ⟨961, 5, .sMinus2⟩ = false := by decide
theorem test_wf_kwin_low : Params.wf ⟨128, 0, .sMinus2⟩ = false := by decide
theorem test_wf_kwin_high : Params.wf ⟨128, 9, .sMinus2⟩ = false := by decide
/-- Every register of the 4-bit type is one of the 16 (R81), so that no command is ill-formed. -/
theorem test_wf_every_register (r : RegIx) : (Instr.modpow r r r r).wf = true := by
  simp [Instr.wf, Instr.sources, Instr.dest, Config.nreg, r.isLt]

/-! ## Decoding: words written out bit by bit from R80 -/

/-- RSV 0, RS3 3, RS2 2, RS1 1, RD 0, OPC 1 (R90 `modpow r0, r1, r2, r3`). -/
theorem test_decode_modpow :
    decode 0b00000000_0011_0010_0001_0000_00000001 = .ok (.modpow 0 1 2 3) := by decide
/-- RSV 0, RS3 0, RS2 6, RS1 5, RD 4, OPC 2 (R90 `modinv r4, r5, r6`). -/
theorem test_decode_modinv :
    decode 0b00000000_0000_0110_0101_0100_00000010 = .ok (.modinv 4 5 6) := by decide
/-- RSV 0, RS3 0, RS2 0, RS1 7, RD 0, OPC 3 (R90 `primetest r7`). -/
theorem test_decode_primetest :
    decode 0b00000000_0000_0000_0111_0000_00000011 = .ok (.primetest 7) := by decide
theorem test_encode_modpow : encode (.modpow 0 1 2 3) = 0x00321001 := by decide
theorem test_encode_modinv : encode (.modinv 4 5 6) = 0x00065402 := by decide
theorem test_encode_primetest : encode (.primetest 7) = 0x00007003 := by decide
theorem test_decode_illegal_wins : decode 0xFF000004 = .error .illegalOpcode := by decide
theorem test_decode_reserved : decode 0x00107003 = .error .reservedField := by decide
theorem test_decode_table_word : decodeTableWord 32 0x00065402 = some (.modinv 4 5 6) := by decide

/-! ## Operands: R52, R53, R70 -/

theorem test_val_minus_two : (Reg.ofInt 2 (-2)).map RegWord.bits = [0xFFFFFFFE, 0xFFFFFFFF] := by decide
theorem test_val_least : (Reg.ofInt 2 (-9223372036854775808)).val = -9223372036854775808 := by decide
/-- A register with one word rewritten holds the value of the mixed words (R208): 2^32 + 7. -/
theorem test_val_mixed :
    (((tiny [(1, 4294967296 + 5)]).setWord 1 0 7).reg 1).val = 4294967303 := by decide
theorem test_trem_signs : (trem (-32) 33, trem (-66) 33, trem 7 (-3), tdiv (-7) 2, trem (-7) 2) =
    (-32, 0, 1, -3, -1) := by decide

/-! ## MODPOW (95 §2.1) -/

/-- S2: `mod_pow(-2, 5, 33) == -32`. -/
theorem test_modpow_negative_base :
    outcome 0 (exec (.modpow 0 1 2 3) (tiny [(0, 0), (1, -2), (2, 5), (3, 33)])) = some (0x12, 0, 0, -32) := by decide
/-- `modpow r1,r1,r2,r3`, 3^4 mod 10, computed from the old R1. -/
theorem test_modpow_source_is_destination :
    outcome 1 (exec (.modpow 1 1 2 3) (tiny [(1, 3), (2, 4), (3, 10)])) = some (0x12, 0, 0, 1) := by decide
/-- The digit trace of 95 §2.1 with K_WIN = 2: 3^100 mod 101 has the digits 0, 1, 2, 1 and the result 1. -/
theorem test_modpow_digit_trace : digits 4 100 100 = [0, 1, 2, 1] ∧ modPow 2 3 100 101 = 1 := by decide

/-! ## MODINV (95 §2.2) -/

/-- S5: `mod_inverse(7, 26) == Some(15)`, five iterations. -/
theorem test_modinv_of_seven :
    outcome 4 (exec (.modinv 4 5 6) (tiny [(4, 0), (5, 7), (6, 26)])) = some (0x12, 0, 5, 15) := by decide
/-- `gcd(12, 18) = 6`: RES_NOINV after three iterations, R4 unchanged. -/
theorem test_modinv_none :
    outcome 4 (exec (.modinv 4 5 6) (tiny [(4, 9), (5, 12), (6, 18)])) = some (0x22, 0, 3, 9) := by decide
/-- The loop trace of (7, 26) after three iterations (95 §2.2). -/
theorem test_modinv_trace : euclidLoop 3 (euclidSeed 7 26) = ⟨3, 5, 4, 2, true, 3⟩ := by decide

/-! ## PRIMETEST (95 §2.3) -/

/-- 41 with CERTAINTY 2 and witness 3: COMPOSITE(MR_EXHAUSTED) in round 1 under `s - 2`. -/
theorem test_primetest_exhausted :
    outcome 7 (exec (.primetest 7) (candidate .sMinus2 41 2 [.ok 3])) = some (0x42, 6, 1, 41) := by decide
/-- The same under `s - 1`: PRIME(PASSED). -/
theorem test_primetest_alternative :
    outcome 7 (exec (.primetest 7) (candidate .sMinus1 41 2 [.ok 3])) = some (0x32, 1, 2, 41) := by decide
/-- 8321 with witness 7: MR_ONE in round 1. -/
theorem test_primetest_mr_one :
    primeTest 5 .sMinus2 8321 2 [.ok 7] = .composite .mrOne 0 1 := by decide +kernel
/-- `221 = 13 * 17` is divided by 13 first. -/
theorem test_primetest_smalldiv :
    outcome 7 (exec (.primetest 7) (candidate .sMinus2 221 1 [])) = some (0x42, 0x00000D04, 0, 221) := by decide

/-! ## The host port (95 §2.5), the interlock, the interrupt, reset (95 §2.6) -/

theorem test_read_id : (State.reset.hostRead 0x0000).responses = [.read 0x4E544501 false] := by decide
theorem test_read_param : (State.reset.hostRead 0x0004).responses = [.read 0x00801005 false] := by decide
theorem test_read_misaligned : (State.reset.hostRead 0x0002).responses = [.read 0 true] := by decide
theorem test_read_unmapped : (State.reset.hostRead 0x3000).responses = [.read 0 true] := by decide
theorem test_write_partial : State.reset.hostWrite 0x1000 1 0b0011 = State.reset.respond (.write true) := by decide
theorem test_map_last_word : target Config.reference 0x2FFC = some (.regWord 15 127) := by decide
theorem test_write_status :
    (State.hostWrite { tiny [] with status := ⟨false, true, true, .none, .badModulus⟩ } 0x000C 0xFFFFFFFF 0b1111).status.word =
      0x00000300 := by decide
theorem test_interlock :
    (((tiny [(0, 5)]).issue 0x00321001).hostWrite 0x1000 7 0b1111).status.word = 5 ∧
    ((((tiny [(0, 5)]).issue 0x00321001).hostWrite 0x1000 7 0b1111).reg 0).val = 5 := by decide
theorem test_irq : (State.raise { tiny [] with ie := true } .badModulus 0).irq = true := by decide
theorem test_reset_in_flight :
    ((tiny [(0, 5)]).issue 0x00321001).resetEngine.status.word = 0 ∧
    ((tiny [(0, 5)]).issue 0x00321001).resetEngine.certainty = 4 ∧
    (((tiny [(0, 5)]).issue 0x00321001).resetEngine.reg 0).allWritten = false := by decide
/-- The illegal word of program P4 completes with STATUS 0x00000102. -/
theorem test_illegal_word :
    outcome 0 (((tiny [(0, 5)]).issue 0).engineStep) = some (0x00000102, 0, 0, 5) := by decide
/-- A host script sets a register and reads it back (R92). -/
theorem test_setr_getr :
    getrValue (readData (((setrWrites (small .sMinus2) 3 (-33) ++ getrReads (small .sMinus2) 3).foldl
      State.transact (tiny [])).responses)) = -33 := by decide
/-- The script's other lines: `irqon`, `setcert 9`, `issue`, a poll and `ack` (R92). -/
theorem test_script_words :
    [irqonWrite, setcertWrite 9, issueWrite (.primetest 7), pollRead, ackWrite] =
      [.write 0x008 1 0b1111, .write 0x014 9 0b1111, .write 0x010 0x00007003 0b1111, .read 0x00C,
       .write 0x00C 6 0b1111] := by decide

/-- `w_data` of OPW = 64 wires: all ones is -1, bit 64 is no wire, and `w_err` wins over the data (R68, R69). -/
theorem test_witness_width :
    witnessAnswer 64 false 0xFFFFFFFFFFFFFFFF = .ok (-1) ∧ witnessAnswer 64 false 0x10000000000000007 = .ok 7 ∧
    witnessAnswer 64 true 7 = .err := by decide
/-- A reset of an idle engine, too, leaves CERTAINTY 4 and OVR 0 (R200, R201). -/
theorem test_reset_idle :
    (State.resetEngine { tiny [] with certainty := 9, status := ⟨false, true, true, .prime, .none⟩ }).certainty = 4 ∧
    (State.resetEngine { tiny [] with status := ⟨false, true, true, .prime, .none⟩ }).status.word = 0 := by decide

/-! ## A command as the first step after reset -/

theorem test_first_modpow : isNext (step (State.reset.withFetchWord 32 0x00321001)) = true := by decide
theorem test_first_modinv : isNext (step (State.reset.withFetchWord 32 0x00065402)) = true := by decide
theorem test_first_primetest : isNext (step (State.reset.withFetchWord 32 0x00007003)) = true := by decide

/-! ## The hypotheses of the statements are met -/

theorem wit_instr_wf : (Instr.modpow 15 15 15 15).wf = true ∧ (Instr.modinv 15 15 15).wf = true ∧
    (Instr.primetest 15).wf = true := by decide

theorem wit_decodes : decode 0x00FFFF01 = .ok (.modpow 15 15 15 15) := by decide

/-- A state with a word in flight. -/
def flying (w : Word) (l : List (RegIx × Int)) : State := (tiny l).issue w

/-- Undefined OPC: the least and the greatest above the defined ones, and the zero word. -/
theorem wit_illegal : (flying 0x04 []).status.busy = true ∧
    ((flying 0x04 []).cmd &&& 0xFF ≠ 1 ∧ (flying 0x04 []).cmd &&& 0xFF ≠ 2 ∧ (flying 0x04 []).cmd &&& 0xFF ≠ 3) ∧
    ((flying 0xFFFFFFFF []).cmd &&& 0xFF ≠ 1 ∧ (flying 0xFFFFFFFF []).cmd &&& 0xFF ≠ 2 ∧
      (flying 0xFFFFFFFF []).cmd &&& 0xFF ≠ 3) ∧
    (flying 0 []).status.busy = true ∧ (flying 0 []).cmd = 0 := by decide

/-- A defined OPC with one reserved bit set, for each field that must be 0. -/
theorem wit_reserved :
    ([0x80000001, 0x80000002, 0x80000003, 0x00800002, 0x00000803, 0x00080003, 0x00800003].all fun w =>
      ((flying w []).cmd &&& 0xFF = 1 ∨ (flying w []).cmd &&& 0xFF = 2 ∨ (flying w []).cmd &&& 0xFF = 3) ∧
      (flying w []).status.busy ∧ !(opcodeTable.any fun r => (flying w []).cmd &&& r.mask == r.pattern)) = true := by
  decide

theorem wit_step_runs : (flying 0x7003 []).status.busy = true ∧
    decode (flying 0x7003 []).cmd = .ok (.primetest 7) ∧ (Instr.primetest 7).wf = true ∧
    (flying 0x7003 []).agenda = [] ∧
    State.agenda { flying 0x7003 [] with agenda := [.engine, .reset] } = .engine :: [.reset] := by decide

theorem wit_moves : State.agenda { tiny [] with agenda := [.host (.read 0)] } = .host (.read 0) :: [] ∧
    State.agenda { tiny [] with agenda := [.witness true 0] } = .witness true 0 :: [] ∧
    State.agenda { tiny [] with agenda := [.reset] } = .reset :: [] ∧
    (State.agenda { tiny [] with agenda := [.engine] } = .engine :: [] ∧ (tiny []).status.busy = false) ∧
    ((tiny []).agenda = [] ∧ (tiny []).status.busy = false) := by decide

/-- 95 §2.4, last row: MODPOW with R1 never written records the model fault, and completes. -/
theorem wit_unwritten_source :
    (nextOf (tiny []) (step (flying 0x00321001 [(2, 5), (3, 33)]))).modelFault = true ∧
    (nextOf (tiny []) (step (flying 0x00321001 [(2, 5), (3, 33)]))).status.done = true ∧
    (nextOf (tiny []) (step (flying 0x00321001 [(1, 2), (2, 5), (3, 33)]))).modelFault = false ∧
    (∃ x ∈ (flying 0x00321001 [(2, 5), (3, 33)]).reg 1, x.written = false) := by decide

/-- Registers that hold the same bits and differ in the written-word map: R1 = 0, written and not. -/
theorem wit_same_contents :
    (∀ r : RegIx, (State.reg { tiny [(2, 5), (3, 33)] with regs := (tiny [(1, 0), (2, 5), (3, 33)]).regs } r).map
        RegWord.bits = ((tiny [(2, 5), (3, 33)]).reg r).map RegWord.bits) ∧
    (tiny [(2, 5), (3, 33)]).regs ≠ (tiny [(1, 0), (2, 5), (3, 33)]).regs := by decide

theorem wit_busy_and_idle : (flying 0x7003 []).status.busy = true ∧ (tiny []).status.busy = false := by decide

/-- The invariant holds of a busy state with a witness request in flight, and its next step answers a next state. -/
theorem wit_invariant :
    State.Inv { candidate .sMinus2 31 3 [.ok 2] with wreq := some ⟨2, 2, 29⟩ } ∧
    isNext (step { candidate .sMinus2 31 3 [.ok 2] with wreq := some ⟨2, 2, 29⟩ }) = true := by
  refine ⟨⟨by decide, by decide, by decide, by decide, by decide, ?_, by decide, ?_, by decide, by decide⟩, by decide⟩
  · intro v h
    have hv : v = 2 := by simpa [candidate] using h
    subst hv
    decide
  intro r h
  have hr : r = ⟨2, 2, 29⟩ := (Option.some.inj h).symm
  subst hr
  exact ⟨by decide, by decide, by decide, 7, by decide, by decide⟩

/-- An issue, a completion and a reset, each changing the outcome. -/
theorem wit_outcome_changes :
    (nextOf (tiny []) (step { tiny [] with agenda := [.host (.write 0x010 0 0b1111)] })).status.busy = true ∧
    (nextOf (tiny []) (step (flying 0 []))).status.err = .illegalOpcode ∧
    (nextOf (tiny []) (step { flying 0 [] with agenda := [.reset] })).status.busy = false := by decide

/-- A host write, a completion and a reset, each changing R0. -/
theorem wit_register_writers :
    ((nextOf (tiny []) (step { tiny [(0, 1)] with agenda := [.host (.write 0x1000 7 0b1111)] })).reg 0).val = 7 ∧
    ((nextOf (tiny []) (step (flying 0x00321001 [(0, 1), (1, 2), (2, 5), (3, 33)]))).reg 0).val = 32 ∧
    ((nextOf (tiny []) (step { tiny [(0, 1)] with agenda := [.reset] })).reg 0).allWritten = false := by decide

/-- A next state with a value and one without, and addresses outside the destination R0: the last word of R15, a control
register, and an unmapped one. -/
theorem wit_frame :
    isNext (exec (.modpow 0 1 2 3) (tiny [(1, 2), (2, 5), (3, 33)])) = true ∧
    (nextOf (tiny []) (exec (.modinv 0 1 2) (tiny [(1, 6), (2, 9)]))).status.result = .noInv ∧
    target (small .sMinus2) ((0x107F : Addr) &&& 0xFFFC) = some (.regWord 15 1) ∧
    target (small .sMinus2) ((0x0017 : Addr) &&& 0xFFFC) = some .certainty ∧
    target (small .sMinus2) ((0x1080 : Addr) &&& 0xFFFC) = none := by decide

/-- Error completions, one with ERR_WITNESS in round 1. -/
theorem wit_error_completions :
    (flying 0x00321001 [(1, 6), (2, 7), (3, 0)]).status.err = .none ∧
    outcome 0 (flying 0x00321001 [(0, 3), (1, 6), (2, 7), (3, 0)]).engineStep = some (0x302, 0, 0, 3) ∧
    (candidate .sMinus2 31 2 [.err]).status.busy = true ∧
    outcome 7 (candidate .sMinus2 31 2 [.err]).engineStep = some (0x602, 0, 1, 31) := by decide

/-- Moves that come between an issue and its completion. -/
theorem wit_outside_moves :
    (∀ m ∈ ([.host (.write 0x1000 7 0b1111), .witness true 0] : List Move), m.isOutside = true) ∧
    isNext (Sys2Proof.core.run 2
      { flying 0x7003 [(7, 31)] with agenda := [.host (.write 0x1000 7 0b1111), .witness true 0] ++ [.engine] }) = true := by
  decide

/-- The ends of the ranges of R6. -/
theorem wit_params : Params.wf ⟨2, 1, .sMinus2⟩ = true ∧ Params.wf ⟨960, 8, .sMinus1⟩ = true ∧
    Params.wf ⟨128, 5, .sMinus2⟩ = true := by decide

/-- ModPow's domain at its least values, and each clause of its sign rule. -/
theorem wit_modpow_domain :
    ((1 : Nat) ≤ 1 ∧ (0 : Int) ≤ 0 ∧ (1 : Int) ≤ 1) ∧ ((1 : Int) < 2 ∧ (0 : Int) ≤ 0) ∧
    ((1 : Int) < 33 ∧ (4 : Int) % 2 = 0) ∧ ((1 : Int) < 33 ∧ (-2 : Int) < 0 ∧ (5 : Int) % 2 = 1) ∧
    ((Reg.ofInt 2 1).length = 2 ∧ 1 ≤ (Reg.ofInt 2 1).val) ∧
    1 ≤ (Reg.ofInt 2 9223372036854775807).val := by decide

theorem wit_modpow_completes :
    (tiny [(1, -2), (2, 0), (3, 1)]).param.wf = true ∧
    (∀ i : RegIx, ((tiny [(1, -2), (2, 0), (3, 1)]).reg i).length = 2) ∧
    ((tiny [(1, -2), (2, 0), (3, 1)]).reg 1).allWritten = true ∧
    ((tiny [(1, -2), (2, 0), (3, 1)]).reg 2).allWritten = true ∧
    ((tiny [(1, -2), (2, 0), (3, 1)]).reg 3).allWritten = true ∧
    1 ≤ ((tiny [(1, -2), (2, 0), (3, 1)]).reg 3).val ∧ 0 ≤ ((tiny [(1, -2), (2, 0), (3, 1)]).reg 2).val := by decide

/-- Each error of MODPOW at its boundary, sources written: `m = 0`, and `m = 1` with `e = -1`. -/
theorem wit_modpow_errors :
    ((tiny [(1, 6), (2, -1), (3, 0)]).sourcesWritten [1, 2, 3] = true ∧
      ((tiny [(1, 6), (2, -1), (3, 0)]).reg 3).val ≤ 0) ∧
    ((tiny [(1, 6), (2, -1), (3, 1)]).sourcesWritten [1, 2, 3] = true ∧
      1 ≤ ((tiny [(1, 6), (2, -1), (3, 1)]).reg 3).val ∧ ((tiny [(1, 6), (2, -1), (3, 1)]).reg 2).val < 0) := by decide

/-- ModInv's domain at its least values, a coprime pair, one that is not, and `a >= n` with and without a rest. -/
theorem wit_modinv_domain :
    ((0 : Int) ≤ 0 ∧ (2 : Int) ≤ 2 ∧ Int.gcd 0 2 ≠ 1) ∧ Int.gcd 1 2 = 1 ∧ (Reg.ofInt 2 2).val = 2 ∧
    ((2 : Int) ≤ 2 ∧ (2 : Int) ≤ 2 ∧ trem 2 2 = 0) ∧ ((26 : Int) ≤ 33 ∧ trem 33 26 ≠ 0) := by decide

theorem wit_iteration_bound : (small .sMinus2).wf = true ∧ (0 : Int) ≤ 0 ∧
    (9223372036854775807 : Int) < 2 ^ ((small .sMinus2).opw - 1) := by decide

theorem wit_modinv_completes :
    (tiny [(5, 7), (6, 26)]).param.wf = true ∧ (∀ i : RegIx, ((tiny [(5, 7), (6, 26)]).reg i).length = 2) ∧
    (tiny [(5, 7), (6, 26)]).sourcesWritten [5, 6] = true ∧ 2 ≤ ((tiny [(5, 7), (6, 26)]).reg 6).val ∧
    0 ≤ ((tiny [(5, 7), (6, 26)]).reg 5).val ∧
    Int.gcd ((tiny [(5, 7), (6, 26)]).reg 5).val ((tiny [(5, 7), (6, 26)]).reg 6).val = 1 ∧
    Int.gcd ((tiny [(5, 0), (6, 2)]).reg 5).val ((tiny [(5, 0), (6, 2)]).reg 6).val ≠ 1 ∧
    (tiny [(5, 0), (6, 2)]).sourcesWritten [5, 6] = true := by decide

/-- Each error of MODINV at its boundary, sources written: `n = 1`, and `n = 2` with `a = -1`. -/
theorem wit_modinv_errors :
    ((tiny [(5, -1), (6, 1)]).sourcesWritten [5, 6] = true ∧ ((tiny [(5, -1), (6, 1)]).reg 6).val ≤ 1) ∧
    ((tiny [(5, -1), (6, 2)]).sourcesWritten [5, 6] = true ∧ 2 ≤ ((tiny [(5, -1), (6, 2)]).reg 6).val ∧
      ((tiny [(5, -1), (6, 2)]).reg 5).val < 0) := by decide

theorem wit_negative_candidate :
    ((candidate .sMinus2 (-1) 1 []).reg 7).allWritten = true ∧ ((candidate .sMinus2 (-1) 1 []).reg 7).val < 0 := by decide

/-- Each clause of the pre-filter at a boundary: 0, 3 and 23 (divided by itself), 1. -/
theorem wit_prefilter :
    (((candidate .sMinus2 0 1 []).reg 7).allWritten = true ∧ ((candidate .sMinus2 0 1 []).reg 7).val = 0) ∧
    ((3 : Int) % 2 ≠ 0 ∧ ((3 : Nat) : Int) ∣ 3 ∧
      (∀ q ∈ ([2, 3, 5, 7, 11, 13, 17, 19, 23] : List Nat), q < 3 → ¬ (q : Int) ∣ 3)) ∧
    ((23 : Int) % 2 ≠ 0 ∧ ((23 : Nat) : Int) ∣ 23 ∧
      (∀ q ∈ ([2, 3, 5, 7, 11, 13, 17, 19, 23] : List Nat), q < 23 → ¬ (q : Int) ∣ 23)) ∧
    ((candidate .sMinus2 1 1 []).reg 7).val = 1 ∧
    ((1 : Int) ≤ 3 ∧ (1 : Int) % 2 ≠ 0 ∧
      (∀ p ∈ ([2, 3, 5, 7, 11, 13, 17, 19, 23] : List Nat), ¬ (p : Int) ∣ 1)) := by decide

/-- 29 is the least candidate that reaches Miller-Rabin (R150), and 31 passes round 0. -/
theorem wit_reaches : ReachesRounds 29 ∧ ReachesRounds 31 ∧ ReachesRounds 41 ∧ ReachesRounds 37 := by
  unfold ReachesRounds; decide

theorem wit_certainty_zero :
    ((candidate .sMinus2 29 0 []).reg 7).allWritten = true ∧ ((candidate .sMinus2 29 0 []).reg 7).val = 29 ∧
    (candidate .sMinus2 29 0 []).certainty = 0 := by decide

/-- 31, CERTAINTY 2: round 0 passes, and the answer 29 = `n - 2` passes round 1; a second answer is not used. -/
theorem wit_all_rounds_pass :
    (candidate .sMinus2 31 2 [.ok 29, .err]).witness = [.ok 29] ++ [.err] ∧
    (candidate .sMinus2 31 2 [.ok 29, .err]).certainty.toNat = [WitnessAnswer.ok 29].length + 1 ∧
    (candidate .sMinus2 31 2 [.ok 29, .err]).roundOf 31 2 = .pass ∧
    (∀ a ∈ [WitnessAnswer.ok 29], (candidate .sMinus2 31 2 [.ok 29, .err]).passes 31 a) := by
  refine ⟨by decide, by decide, by decide, ?_⟩
  intro a h
  exact ⟨29, by simpa using h, by decide, by decide, by decide⟩

/-- Round 0 rejects 37 with MR_EXHAUSTED; under `s - 1` it rejects 5461 with MR_ONE. -/
theorem wit_round_zero_rejects :
    (candidate .sMinus2 37 1 []).roundOf 37 2 = .exhausted ∧
    roundBody 5 .sMinus1 5461 (split 5460).1 (split 5460).2 2 = .one ∧ ReachesRounds 5461 ∧
    1 ≤ (candidate .sMinus2 37 1 []).certainty.toNat := by
  unfold ReachesRounds; decide +kernel

/-- Round 1 rejects 41 with MR_EXHAUSTED for the witness 3, and 8321 with MR_ONE for 7, after a round 0 that passes. -/
theorem wit_round_one_rejects :
    (candidate .sMinus2 41 2 [.ok 3]).witness = [] ++ .ok 3 :: [] ∧
    ([] : List WitnessAnswer).length + 1 < (candidate .sMinus2 41 2 [.ok 3]).certainty.toNat ∧
    (candidate .sMinus2 41 2 [.ok 3]).roundOf 41 2 = .pass ∧
    (candidate .sMinus2 41 2 [.ok 3]).roundOf 41 3 = .exhausted ∧ ReachesRounds 8321 ∧
    roundBody 5 .sMinus2 8321 (split 8320).1 (split 8320).2 2 = .pass ∧
    roundBody 5 .sMinus2 8321 (split 8320).1 (split 8320).2 7 = .one := by
  unfold ReachesRounds; decide +kernel

/-- Bad answers in round 1: `err`, 1 and `n - 1`. -/
theorem wit_bad_witness :
    (candidate .sMinus2 31 2 [.err]).witness = [] ++ .err :: [] ∧
    ([] : List WitnessAnswer).length + 1 < (candidate .sMinus2 31 2 [.err]).certainty.toNat ∧
    (candidate .sMinus2 31 2 [.err]).roundOf 31 2 = .pass ∧ ((1 : Int) < 2) ∧ ((30 : Int) > 31 - 2) := by decide

theorem wit_unanswered :
    (candidate .sMinus2 31 2 []).witness.length + 1 < (candidate .sMinus2 31 2 []).certainty.toNat ∧
    (candidate .sMinus2 31 2 []).roundOf 31 2 = .pass ∧
    (∀ a ∈ (candidate .sMinus2 31 2 []).witness, (candidate .sMinus2 31 2 []).passes 31 a) := by
  refine ⟨by decide, by decide, ?_⟩
  intro a h
  exact absurd h (by simp [candidate, tinyOf, State.powerOn])

theorem wit_answered : (candidate .sMinus2 31 2 [.ok 2]).certainty.toNat ≤
    (candidate .sMinus2 31 2 [.ok 2]).witness.length + 1 ∧
    0 ≤ ((candidate .sMinus2 31 2 [.ok 2]).reg 7).val := by decide

/-- Primes of each class of R152: 29 and 37 are 5 mod 8, 31 is 3 mod 4, 41 is 1 mod 8. -/
theorem wit_primes : Nat.Prime 29 ∧ Nat.Prime 31 ∧ Nat.Prime 37 ∧ Nat.Prime 41 ∧ 29 % 8 = 5 ∧ 37 % 8 = 5 ∧ 31 % 4 = 3 ∧
    41 % 8 = 1 ∧ (2 : Int) ≤ 2 ∧ (2 : Int) ≤ (29 : Nat) - 2 := by norm_num

theorem wit_prime_states :
    (candidate .sMinus2 37 1 []).param.wf = true ∧ (candidate .sMinus2 37 1 []).param.mrLim = .sMinus2 ∧
    ((candidate .sMinus2 37 1 []).reg 7).val = (37 : Nat) ∧ ((candidate .sMinus2 37 1 []).reg 7).allWritten = true ∧
    ((candidate .sMinus2 31 1 []).reg 7).val = (31 : Nat) ∧ ((candidate .sMinus2 41 1 []).reg 7).val = (41 : Nat) ∧
    (candidate .sMinus1 29 2 [.ok 27]).param.wf = true ∧ (candidate .sMinus1 29 2 [.ok 27]).param.mrLim = .sMinus1 ∧
    ((candidate .sMinus1 29 2 [.ok 27]).reg 7).val = (29 : Nat) ∧
    1 ≤ (candidate .sMinus1 29 2 [.ok 27]).certainty.toNat ∧
    (candidate .sMinus1 29 2 [.ok 27]).certainty.toNat ≤ (candidate .sMinus1 29 2 [.ok 27]).witness.length + 1 ∧
    (2 : Int) ≤ 27 ∧ (27 : Int) ≤ (29 : Nat) - 2 := by decide

theorem wit_verdicts : primeTest 5 .sMinus1 (5461 : Nat) 1 [] = .composite .mrOne 0 0 ∧
    primeTest 5 .sMinus2 (2 : Nat) 1 [] = .composite .even 0 0 ∧
    primeTest 5 .sMinus2 (23 : Nat) 1 [] = .composite .smallDiv 23 0 := by decide +kernel

/-- The address map at the edges of its ranges, for the least OPW: 0x20, 0xFFC, 0x1000, RTOP - 4 and RTOP. -/
theorem wit_map_edges :
    ((0x20 : Addr).toNat = 0x20 ∧ (0xFFC : Addr).toNat < 0x1000) ∧ 0x1000 + 16 * ((small .sMinus2).opw / 8) = 0x1080 ∧
    target (small .sMinus2) 0x1000 = some (.regWord 0 0) ∧ target (small .sMinus2) 0x107C = some (.regWord 15 1) ∧
    target (small .sMinus2) 0x1080 = none ∧ target (small .sMinus2) 0xFFC = none ∧
    target (small .sMinus2) 0x1C = some .info1 := by decide

/-- A written word, the last of R15, and writes to it while idle and while busy. -/
theorem wit_port_words :
    ((tiny [(15, -1)]).reg 15)[1]? = some ⟨0xFFFFFFFF, true⟩ ∧ 1 < (tiny [(15, -1)]).param.opw32 ∧
    (tiny []).status.busy = false ∧ (flying 1 []).status.busy = true := by decide

/-- The edges of R57: `0x2` misaligned, a partial strobe, and a full write dropped while busy. -/
theorem wit_bus_errors :
    (0x2 : Addr).toNat % 4 ≠ 0 ∧ (0b0111 : BitVec 4) ≠ 0b1111 ∧ (0x20 ≤ (0x20 : Addr).toNat ∧ (0x20 : Addr).toNat < 0x1000) ∧
    0x1000 + 64 * (tiny []).param.opw32 ≤ (0x1080 : Addr).toNat ∧
    target (flying 1 []).param 0x10 = some .cmd ∧ (flying 1 []).status.busy = true := by decide

theorem wit_bytes : ((tiny [(15, -2)]).reg 15).allWritten = true ∧ 7 < (tiny [(15, -2)]).param.opw / 8 ∧
    (∀ i : RegIx, ((tiny [(15, -2)]).reg i).length = (tiny [(15, -2)]).param.opw32) ∧
    (tiny [(15, -2)]).peekByte 0x1078 = some 0xFE ∧ (tiny [(15, -2)]).peekByte 0x107F = some 0xFF := by decide

theorem wit_words : 1 < 2 ∧ ((Reg.ofInt 2 (-2))[1]?) = some ⟨0xFFFFFFFF, true⟩ := by decide

/-- The least value of the range, written word by word to R15 of an idle engine. -/
theorem wit_setr :
    (-(2 ^ ((tiny []).param.opw - 1)) : Int) ≤ -9223372036854775808 ∧
    (-9223372036854775808 : Int) < 2 ^ ((tiny []).param.opw - 1) ∧ (tiny []).status.busy = false ∧
    isNext (Sys2Proof.core.run 2 { tiny [] with
      agenda := (setrWrites (small .sMinus2) 15 (-9223372036854775808)).map Move.host ++ [.engine] }) = true := by
  decide

/-- A completion that raises `irq`. -/
theorem wit_irq : (State.status { flying 0 [] with ie := true }).busy = true ∧
    (nextOf (tiny []) (State.engineStep { flying 0 [] with ie := true })).irq = true := by decide

end Sys2Proof.Tests
end

section
/-! The step, said once for each kind of move that the agenda can begin with, and statement O8 from these rules. -/

namespace Sys2Proof.Machine

variable {s : State} {rest : List Move}

theorem step_host {x : Transaction} (h : s.agenda = .host x :: rest) :
    step s = .next (State.transact { s with agenda := rest } x) := step_cons h

theorem step_witness {wErr : Bool} {wData : Nat} (h : s.agenda = .witness wErr wData :: rest) :
    step s = .next (State.answerWitness { s with agenda := rest } wErr wData) := step_cons h

theorem step_reset (h : s.agenda = .reset :: rest) :
    step s = .next (State.resetEngine { s with agenda := rest }) := step_cons h

theorem step_engine (h : s.agenda = .engine :: rest) :
    step s = State.engineStep { s with agenda := rest } := step_cons h

/-- The engine's turn does nothing but leave the agenda while BUSY = 0 (R86). -/
theorem step_engine_idle (h : s.agenda = .engine :: rest) (hb : s.status.busy = false) :
    step s = .next { s with agenda := rest } :=
  (step_engine h).trans (State.engineStep_idle hb)

/-- With nothing planned and no command in flight the machine stays as it is (log 5). -/
theorem step_nil_idle (h : s.agenda = []) (hb : s.status.busy = false) : step s = .next s :=
  (step_nil h).trans (State.engineStep_idle hb)

end Sys2Proof.Machine

namespace Sys2Proof.Proofs

open Sys2Proof.Machine

/-- Settles O8: the clauses are the rules of the step, one for each first move of the agenda. -/
theorem stepMakesTheNextMove : Obligations.StepMakesTheNextMove := by
  unfold Obligations.StepMakesTheNextMove
  intro s rest
  exact ⟨fun _ => step_host, fun _ _ => step_witness, step_reset, step_engine, step_nil,
    step_engine_idle, step_nil_idle⟩

end Sys2Proof.Proofs
end

section
/-! What one step, a transaction and a port write can do, said once each, and what a command leaves unchanged. -/

namespace Sys2Proof.Machine

variable {s t : State}

/-! ### The step -/

/-- What a step can do, one case for each agent. With nothing planned the move is the engine's (log 5). -/
theorem step_cases (h : step s = .next t) :
    (∃ x rest, s.agenda = .host x :: rest ∧ t = State.transact { s with agenda := rest } x) ∨
    (∃ e d rest, s.agenda = .witness e d :: rest ∧ t = State.answerWitness { s with agenda := rest } e d) ∨
    (∃ rest, s.agenda = .reset :: rest ∧ t = State.resetEngine { s with agenda := rest }) ∨
    ((s.agenda = [] ∨ s.agenda.head? = some .engine) ∧
      State.engineStep { s with agenda := s.agenda.tail } = .next t) := by
  rcases ha : s.agenda with _ | ⟨m, rest⟩
  · have hs : { s with agenda := [] } = s := by rw [← ha]
    exact .inr (.inr (.inr ⟨.inl rfl, by rw [List.tail_nil, hs, ← step_nil ha, h]⟩))
  · rw [step_cons ha] at h
    cases m with
    | host x => cases h; exact .inl ⟨x, rest, rfl, rfl⟩
    | engine => exact .inr (.inr (.inr ⟨.inr rfl, h⟩))
    | witness e d => cases h; exact .inr (.inl ⟨e, d, rest, rfl, rfl⟩)
    | reset => cases h; exact .inr (.inr (.inl ⟨rest, rfl, rfl⟩))

theorem exec_answers_next (i : Instr) (s : State) : ∃ t, exec i s = .next t := by
  rcases exec_cases i s with ⟨_, _, _, _, _, h⟩ | ⟨_, _, _, _, h⟩ | ⟨_, _, _, h⟩ <;> exact ⟨_, h⟩

theorem State.engineStep_answers_next (s : State) : ∃ t, s.engineStep = .next t := by
  cases hb : s.status.busy with
  | false => exact ⟨s, State.engineStep_idle hb⟩
  | true =>
    rcases hd : decode s.cmd with (_ | _) | i
    · exact ⟨s.raise .illegalOpcode 0, by simp [State.engineStep, hb, hd]⟩
    · exact ⟨s.raise .reservedField 0, by simp [State.engineStep, hb, hd]⟩
    · rw [State.engineStep_command hb hd]
      exact exec_answers_next i s

theorem step_answers_next (s : State) : ∃ t, step s = .next t := by
  rcases ha : s.agenda with _ | ⟨m, rest⟩
  · rw [step_nil ha]
    exact s.engineStep_answers_next
  · rw [step_cons ha]
    cases m with
    | engine => exact State.engineStep_answers_next _
    | host x => exact ⟨_, rfl⟩
    | witness e d => exact ⟨_, rfl⟩
    | reset => exact ⟨_, rfl⟩

/-! ### The host port -/

/-- The address of CMD is the one that issues a command (R51). -/
theorem target_eq_cmd_iff {p : Params} {a : Addr} : target p a = some .cmd ↔ a = 0x010 := by
  constructor
  · intro h
    simp only [target] at h
    split_ifs at h with halign hctrl
    · have hk : a.toNat / 4 = 4 := by
        unfold controlTarget at h
        split at h <;> simp_all
      exact BitVec.eq_of_toNat_eq (by simp; omega)
    · cases h
  · rintro rfl
    exact target_cmd p

/-- A transaction answers the host and touches nothing but the count of draws, or it is the write of a full word to an
accessible address (R55, R56, R59). -/
theorem State.transact_cases (s : State) (x : Transaction) :
    (∃ r k, s.transact x = State.respond { s with draws := k } r) ∨
    ∃ a w g, x = .write a w 0b1111 ∧ target s.param a = some g ∧
      s.transact x = (s.portWrite w g).respond (.write false) := by
  cases x with
  | read a =>
    rcases s.hostRead_cases a with ⟨-, h⟩ | ⟨g, -, h⟩
    · exact .inl ⟨_, s.draws, h⟩
    · refine .inl ⟨.read (s.portData g) false, (s.countDraw (s.takesDraw g)).draws, h.trans ?_⟩
      cases s.takesDraw g <;> rfl
  | write a w strb =>
    rcases s.hostWrite_cases a w strb with h | ⟨g, rfl, hg, h⟩
    · exact .inl ⟨_, s.draws, h⟩
    · exact .inr ⟨a, w, g, rfl, hg, h⟩

@[simp] theorem State.portWrite_param (s : State) (w : Word) (g : Target) : (s.portWrite w g).param = s.param := by
  cases hb : s.status.busy <;> cases g <;> simp [State.portWrite, hb]

@[simp] theorem State.portWrite_modelFault (s : State) (w : Word) (g : Target) :
    (s.portWrite w g).modelFault = s.modelFault := by
  cases hb : s.status.busy <;> cases g <;> simp [State.portWrite, hb]

@[simp] theorem State.portWrite_agenda (s : State) (w : Word) (g : Target) :
    (s.portWrite w g).agenda = s.agenda := by
  cases hb : s.status.busy <;> cases g <;> simp [State.portWrite, hb]

@[simp] theorem Status.write_busy (u : Status) (w : Word) : (u.write w).busy = u.busy := rfl
@[simp] theorem Status.write_result (u : Status) (w : Word) : (u.write w).result = u.result := rfl
@[simp] theorem Status.write_err (u : Status) (w : Word) : (u.write w).err = u.err := rfl

/-- A port write changes BUSY, RESULT and ERR only when it issues a command (R30). -/
theorem State.portWrite_outcome (s : State) (w : Word) (g : Target) :
    (g = .cmd ∧ s.status.busy = false ∧ (s.portWrite w g).status.busy = true) ∨
    ((s.portWrite w g).status.busy = s.status.busy ∧ (s.portWrite w g).status.result = s.status.result ∧
      (s.portWrite w g).status.err = s.status.err) := by
  cases hb : s.status.busy <;> cases g <;> simp [State.portWrite, hb]

/-- A port write changes an operand register only when it writes a word of it while BUSY = 0 (R22, R35). -/
theorem State.portWrite_reg (s : State) (w : Word) (g : Target) (k : RegIx) :
    (s.portWrite w g).reg k = s.reg k ∨
    ∃ j, s.status.busy = false ∧ g = .regWord k j ∧ (s.portWrite w g).reg k = (s.reg k).set j ⟨w, true⟩ := by
  cases hb : s.status.busy with
  | true => left; cases g <;> simp [State.portWrite, hb, State.reg]
  | false =>
    cases g with
    | regWord i j =>
      have e : s.portWrite w (.regWord i j) = s.setWord i j w := by simp [State.portWrite, hb]
      rw [e]
      by_cases hik : i = k
      · subst hik; exact .inr ⟨j, rfl, rfl, s.reg_setWord_self i j w⟩
      · exact .inl (s.reg_setWord_of_ne hik j w)
    | _ => left; simp [State.portWrite, hb, State.reg]

/-- What the engine reads of a command in flight, and BUSY, do not change at a port write (R35). -/
theorem State.portWrite_busy (hb : s.status.busy = true) (w : Word) (g : Target) :
    (s.portWrite w g).regs = s.regs ∧ (s.portWrite w g).certainty = s.certainty ∧ (s.portWrite w g).cmd = s.cmd ∧
      (s.portWrite w g).status.busy = true := by
  cases g <;> simp [State.portWrite, hb]

@[simp] theorem State.transact_param (s : State) (x : Transaction) : (s.transact x).param = s.param := by
  rcases s.transact_cases x with ⟨r, k, h⟩ | ⟨a, w, g, -, -, h⟩ <;> simp [h]

@[simp] theorem State.transact_modelFault (s : State) (x : Transaction) :
    (s.transact x).modelFault = s.modelFault := by
  rcases s.transact_cases x with ⟨r, k, h⟩ | ⟨a, w, g, -, -, h⟩ <;> simp [h]

@[simp] theorem State.transact_agenda (s : State) (x : Transaction) : (s.transact x).agenda = s.agenda := by
  rcases s.transact_cases x with ⟨r, k, h⟩ | ⟨a, w, g, -, -, h⟩ <;> simp [h]

theorem State.transact_busy (hb : s.status.busy = true) (x : Transaction) :
    (s.transact x).regs = s.regs ∧ (s.transact x).certainty = s.certainty ∧ (s.transact x).cmd = s.cmd ∧
      (s.transact x).status.busy = true := by
  rcases s.transact_cases x with ⟨r, k, h⟩ | ⟨a, w, g, -, -, h⟩ <;> rw [h]
  · exact ⟨rfl, rfl, rfl, hb⟩
  · exact State.portWrite_busy hb w g

/-! ### The engine -/

/-- The frame without a destination is the stronger one. -/
theorem CompletionFrame.weaken (h : CompletionFrame none s t) (rd : Option RegIx) : CompletionFrame rd s t :=
  { h with regs := fun i _ => h.regs i (by simp) }

/-- A completion that writes no operand register, an error's too, leaves them all. -/
theorem completionFrame_complete (s : State) (l : List RegIx) (r : ResultCode) (e : ErrCode) (a b : Word) :
    CompletionFrame none s ((s.noteSources l).complete r e a b) := by
  constructor <;> intros <;> rfl

theorem completionFrame_writeResult (s : State) (l : List RegIx) (rd : RegIx) (v : Int) (r : ResultCode) (e : ErrCode)
    (a b : Word) : CompletionFrame (some rd) s (((s.noteSources l).writeResult rd v).complete r e a b) := by
  constructor
  case regs =>
    intro i hi
    have hne : rd ≠ i := fun h => hi (congrArg some h)
    simp [State.reg_writeResult_of_ne _ hne]
  all_goals rfl

/-- A command leaves all but its destination, and without RES_VALUE that too (R22, R87). -/
theorem exec_completionFrame {i : Instr} (h : exec i s = .next t) :
    CompletionFrame i.dest s t ∧ (t.status.result ≠ .value → CompletionFrame none s t) := by
  rcases exec_eq_next_cases h with ⟨r, e, a, b, -, rfl⟩ | ⟨rd, v, b, hd, rfl⟩ | ⟨rs1, q, -, rfl⟩
  · have hf := completionFrame_complete s i.sources r e a b
    exact ⟨hf.weaken _, fun _ => hf⟩
  · rw [hd]
    exact ⟨completionFrame_writeResult s i.sources rd v _ _ _ b, fun hr => absurd rfl hr⟩
  · have hf : CompletionFrame none s { s.noteSources i.sources with wreq := some q } := by
      constructor <;> intros <;> rfl
    exact ⟨hf.weaken _, fun _ => hf⟩

theorem exec_modelFault {i : Instr} (h : exec i s = .next t) :
    t.modelFault = (s.modelFault || !s.sourcesWritten i.sources) := by
  rcases exec_eq_next_cases h with ⟨_, _, _, _, -, rfl⟩ | ⟨_, _, _, -, rfl⟩ | ⟨_, _, -, rfl⟩ <;> simp

/-- The engine's step keeps the parameters (R32). -/
theorem State.engineStep_param (h : s.engineStep = .next t) : t.param = s.param := by
  rcases State.engineStep_cases h with ⟨-, rfl⟩ | ⟨-, -, rfl⟩ | ⟨-, -, rfl⟩ | ⟨-, i, -, hx⟩
  · rfl
  · rfl
  · rfl
  · exact (exec_completionFrame hx).1.param

/-- The engine's step changes BUSY, RESULT and ERR only by a completion (R30, R87). -/
theorem State.engineStep_outcome (h : s.engineStep = .next t) :
    t.status = s.status ∨ (s.status.busy = true ∧ t.status.busy = false ∧ t.status.done = true) := by
  rcases State.engineStep_cases h with ⟨-, rfl⟩ | ⟨hb, -, rfl⟩ | ⟨hb, -, rfl⟩ | ⟨hb, i, -, hx⟩
  · exact .inl rfl
  · exact .inr ⟨hb, rfl, rfl⟩
  · exact .inr ⟨hb, rfl, rfl⟩
  · rcases exec_eq_next_cases hx with ⟨_, _, _, _, -, rfl⟩ | ⟨_, _, _, -, rfl⟩ | ⟨_, _, -, rfl⟩
    · exact .inr ⟨hb, rfl, rfl⟩
    · exact .inr ⟨hb, rfl, rfl⟩
    · exact .inl rfl

/-- The engine's step changes an operand register only as the destination of a command with RES_VALUE (R22, R87). -/
theorem State.engineStep_reg (h : s.engineStep = .next t) (k : RegIx) :
    t.reg k = s.reg k ∨
    (s.status.busy = true ∧ (∃ i, decode s.cmd = .ok i ∧ i.dest = some k) ∧ t.status.result = .value ∧
      t.status.err = .none ∧ (t.reg k).length = s.param.opw32 ∧ (t.reg k).allWritten = true) := by
  rcases State.engineStep_cases h with ⟨-, rfl⟩ | ⟨-, -, rfl⟩ | ⟨-, -, rfl⟩ | ⟨hb, i, hd, hx⟩
  · exact .inl rfl
  · exact .inl rfl
  · exact .inl rfl
  · rcases exec_eq_next_cases hx with ⟨_, _, _, _, -, rfl⟩ | ⟨rd, v, b, hrd, rfl⟩ | ⟨_, _, -, rfl⟩
    · exact .inl rfl
    · by_cases hk : rd = k
      · subst hk
        exact .inr ⟨hb, ⟨i, hd, hrd⟩, rfl, rfl, by simp, by simp⟩
      · exact .inl (by simp [State.reg_writeResult_of_ne _ hk])
    · exact .inl rfl

/-- The engine's step records the model fault exactly on a read of an unwritten source word (R24, R181; log 14). -/
theorem State.engineStep_modelFault (h : s.engineStep = .next t) :
    t.modelFault = true ↔ s.modelFault = true ∨ (s.status.busy = true ∧
      ∃ i, decode s.cmd = .ok i ∧ ∃ r ∈ i.sources, ∃ x ∈ s.reg r, x.written = false) := by
  rcases State.engineStep_cases h with ⟨hb, rfl⟩ | ⟨hb, hd, rfl⟩ | ⟨hb, hd, rfl⟩ | ⟨hb, i, hd, hx⟩
  · simp [hb]
  · simp [hd]
  · simp [hd]
  · simp [exec_modelFault hx, hb, hd, State.sourcesWritten_eq_false_iff]

/-- A word of the register space outside the destination, STATUS, INFO0 and INFO1 reads the same across a frame (R51,
R87). -/
theorem CompletionFrame.peek_eq {rd : Option RegIx} (h : CompletionFrame rd s t) (a : Addr)
    (ha : ∀ g, target s.param a = some g →
      g ≠ .status ∧ g ≠ .info0 ∧ g ≠ .info1 ∧ ∀ r j, rd = some r → g ≠ .regWord r j) :
    t.peek a = s.peek a := by
  unfold State.peek
  rw [h.param]
  rcases hg : target s.param a with _ | g
  · rfl
  · obtain ⟨hst, h0, h1, hrd⟩ := ha g hg
    cases g with
    | status => exact absurd rfl hst
    | info0 => exact absurd rfl h0
    | info1 => exact absurd rfl h1
    | regWord i j =>
      have hi : t.reg i = s.reg i := h.regs i fun e => hrd i j e rfl
      simp [State.takesDraw, State.portData, State.isWritten, hi, h.draws]
    | id => rfl
    | param => simp [State.takesDraw, State.portData, h.param]
    | ctrl => simp [State.takesDraw, State.portData, h.ie]
    | cmd => simp [State.takesDraw, State.portData, h.cmd]
    | certainty => simp [State.takesDraw, State.portData, h.certainty]

end Sys2Proof.Machine
end

section
/-! PRIMETEST: the rounds that witnesses have been answered for, and what its verdicts are. -/

namespace Sys2Proof.Machine

variable {s t : State}

/-- The rounds from round `i` on with the parameters of `s`, `k` of them left (R146). -/
def State.roundsFrom (s : State) (n : Int) (k i : Nat) (answers : List WitnessAnswer) : Verdict :=
  rounds s.param.kWin s.param.mrLim n (split (n - 1)).1 (split (n - 1)).2 k i answers

/-- A candidate that reaches the rounds gets their verdict, `c` rounds from round 0 on (R142 to R146). -/
theorem primeTest_of_reachesRounds {n : Int} (h : ReachesRounds n) (s : State) (c : Nat)
    (answers : List WitnessAnswer) :
    primeTest s.param.kWin s.param.mrLim n c answers = s.roundsFrom n c 0 answers := by
  obtain ⟨hodd, hnone, h3⟩ := h
  simp [primeTest, State.roundsFrom, hodd, hnone, show ¬ n ≤ 3 by omega]

/-- A command on a written candidate that reaches the rounds reports their verdict (R140). -/
theorem exec_primetest_of_reachesRounds {rs1 : RegIx} (hw : (s.reg rs1).allWritten = true)
    (h0 : 0 ≤ (s.reg rs1).val) (h : ReachesRounds (s.reg rs1).val) :
    exec (.primetest rs1) s =
      .next (s.report (s.reg rs1).val (s.roundsFrom (s.reg rs1).val s.certainty.toNat 0 s.witness)) := by
  rw [exec_primetest_of_written hw, State.finishPrimetest, if_neg (by omega), primeTest_of_reachesRounds h]

/-- Round 0 that passes uses up no answer (R146, R147). -/
theorem State.roundsFrom_zero_of_pass {n : Int} (h : s.roundOf n 2 = .pass) (k : Nat)
    (answers : List WitnessAnswer) : s.roundsFrom n (k + 1) 0 answers = s.roundsFrom n k 1 answers := by
  unfold State.roundOf at h
  simp [State.roundsFrom, rounds, roundWitness, h]

/-- A later round that passes uses up one answer (R147 to R149). -/
theorem State.roundsFrom_succ_of_passes {n : Int} {a : WitnessAnswer} (h : s.passes n a) (k i : Nat)
    (answers : List WitnessAnswer) :
    s.roundsFrom n (k + 1) (i + 1) (a :: answers) = s.roundsFrom n k (i + 2) answers := by
  obtain ⟨v, rfl, h2, hn, hpass⟩ := h
  unfold State.roundOf at hpass
  have hW : roundWitness n (i + 1) (.ok v :: answers) = .base v := by
    simp only [roundWitness, Nat.succ_ne_zero, if_false]
    exact if_neg (by omega)
  simp [State.roundsFrom, rounds, hW, hpass]

/-- Rounds that pass, each with its answer, lead to the round after them. -/
theorem State.roundsFrom_append_of_passes {n : Int} {good : List WitnessAnswer} (h : ∀ a ∈ good, s.passes n a)
    (k i : Nat) (more : List WitnessAnswer) :
    s.roundsFrom n (good.length + k) (i + 1) (good ++ more) = s.roundsFrom n k (good.length + i + 1) more := by
  induction good generalizing i with
  | nil => simp
  | cons a good ih =>
    obtain ⟨ha, hgood⟩ := List.forall_mem_cons.mp h
    calc s.roundsFrom n ((a :: good).length + k) (i + 1) (a :: good ++ more)
        = s.roundsFrom n (good.length + k) (i + 2) (good ++ more) := by
          rw [← State.roundsFrom_succ_of_passes ha, List.length_cons, Nat.add_right_comm]
          rfl
      _ = s.roundsFrom n k ((a :: good).length + i + 1) more := by
          rw [ih hgood (i + 1), List.length_cons]
          congr 1
          omega

/-- A later round without an answer waits for one (R39, R69). -/
theorem State.roundsFrom_succ_nil (s : State) (n : Int) (k i : Nat) :
    s.roundsFrom n (k + 1) (i + 1) [] = .waiting (i + 1) := by
  simp [State.roundsFrom, rounds, roundWitness]

/-- What PrimeTest can return for `c` rounds and `w` answers: a verdict with a named reason (R151), a failed witness of
one of the rounds 1 to `c - 1` (R147), or a wait for the first round that is not answered (R39). -/
def Verdict.Allowed (c w : Nat) : Verdict → Prop
  | .prime reason _ _     => reason ≠ .none
  | .composite reason _ _ => reason ≠ .none
  | .wfail i              => 1 ≤ i ∧ i < c
  | .waiting i            => i = w + 1 ∧ i < c

/-- The witness of a round is awaited only where no answer is left, and is given by round 0 or by an answer. -/
theorem roundWitness_cases (n : Int) (i : Nat) (answers : List WitnessAnswer) :
    (1 ≤ i ∧ answers = [] ∧ roundWitness n i answers = .await) ∨
    (1 ≤ i ∧ roundWitness n i answers = .fail) ∨
    ((i = 0 ∨ answers ≠ []) ∧ ∃ a, roundWitness n i answers = .base a) := by
  rcases Nat.eq_zero_or_pos i with rfl | hi
  · exact .inr (.inr ⟨.inl rfl, 2, rfl⟩)
  · have h0 : i ≠ 0 := by omega
    rcases answers with _ | ⟨_ | v, rest⟩
    · exact .inl ⟨hi, rfl, by simp [roundWitness, h0]⟩
    · exact .inr (.inl ⟨hi, by simp [roundWitness, h0]⟩)
    · simp only [roundWitness, h0, if_false]
      split
      · exact .inr (.inl ⟨hi, rfl⟩)
      · exact .inr (.inr ⟨.inr (by simp), v, rfl⟩)

/-- Before round `i` the answers of the rounds from 1 to `i - 1` have been used up. -/
theorem rounds_allowed {kWin : Nat} {lim : MrLimit} {n : Int} {e : Nat} {r : Int} {c w : Nat} (k i : Nat)
    (answers : List WitnessAnswer) (hc : i + k = c) (hw : answers.length + (i - 1) = w) :
    (rounds kWin lim n e r k i answers).Allowed c w := by
  induction k generalizing i answers with
  | zero => simp [rounds, Verdict.Allowed]
  | succ k ih =>
    rcases roundWitness_cases n i answers with ⟨hi, rfl, hW⟩ | ⟨hi, hW⟩ | ⟨hrest, a, hW⟩ <;>
      simp only [rounds, hW]
    · simp only [Verdict.Allowed, List.length_nil] at hw ⊢
      omega
    · simp only [Verdict.Allowed]
      omega
    · cases roundBody kWin lim n e r a with
      | one => simp [Verdict.Allowed]
      | exhausted => simp [Verdict.Allowed]
      | pass =>
        refine ih (i + 1) _ (by omega) ?_
        rcases hrest with rfl | hne
        · simpa using hw
        · have hlen := List.length_pos_iff.mpr hne
          have htail := answers.length_tail
          split_ifs <;> omega

theorem primeTest_allowed (kWin : Nat) (lim : MrLimit) (n : Int) (c : Nat) (answers : List WitnessAnswer) :
    (primeTest kWin lim n c answers).Allowed c answers.length := by
  unfold primeTest
  split
  · simp [Verdict.Allowed]
  · split
    · simp [Verdict.Allowed]
    · split
      · simp [Verdict.Allowed]
      · exact rounds_allowed c 0 answers (by omega) (by simp)

end Sys2Proof.Machine
end

section
/-! The invariant: each operation on the state keeps it, and so does every step (R30, R35, R36, R39, R85, R87). -/

namespace Sys2Proof.Machine

variable {s t : State}

/-! ### INFO0 -/

theorem info0Word_reserved (reason : Reason) (p : Nat) : info0Word reason p &&& 0xFFFF00F0 = 0 := by
  apply BitVec.eq_of_getLsbD_eq
  intro k hk
  simp only [info0Word]
  interval_cases k <;> simp

theorem info0Word_reason (reason : Reason) (p : Nat) :
    (info0Word reason p).extractLsb' 0 4 = reasonCode reason := by
  apply BitVec.eq_of_getLsbD_eq
  intro k hk
  simp only [info0Word]
  interval_cases k <;> simp

theorem reasonCode_eq_zero_iff (reason : Reason) : reasonCode reason = 0 ↔ reason = .none := by
  cases reason <;> decide

/-! ### The fields the invariant does not speak of -/

theorem State.Inv.with_agenda (h : s.Inv) (l : List Move) : State.Inv { s with agenda := l } := { h with }

theorem State.Inv.with_draws (h : s.Inv) (k : Nat) : State.Inv { s with draws := k } := { h with }

theorem State.Inv.with_ie (h : s.Inv) (b : Bool) : State.Inv { s with ie := b } := { h with }

theorem State.Inv.respond (h : s.Inv) (r : Response) : (s.respond r).Inv := { h with }

theorem State.Inv.noteSources (h : s.Inv) (l : List RegIx) : (s.noteSources l).Inv := { h with }

/-! ### The host's writes -/

theorem State.Inv.ackStatus (h : s.Inv) (w : Word) : (s.ackStatus w).Inv :=
  { h with
    busyNotDone := by
      rintro ⟨hb, hd⟩
      exact h.busyNotDone ⟨hb, (Bool.and_eq_true_iff.mp hd).1⟩ }

theorem State.Inv.dropWrite (h : s.Inv) : s.dropWrite.Inv := { h with }

/-- Idle there is no request, so that what is said of one holds whatever the registers become. -/
theorem State.Inv.wreq_ne_some (h : s.Inv) (hb : s.status.busy = false) (q : WitnessReq) : s.wreq ≠ some q := by
  simp [(h.idleNoWitness hb).1]

theorem State.Inv.issue (h : s.Inv) (hb : s.status.busy = false) (w : Word) : (s.issue w).Inv :=
  { h with
    busyNotDone := by simp
    busyCleared := by simp
    errorNoResult := by simp
    idleNoWitness := by simp
    requestOk := fun q hq => absurd hq (h.wreq_ne_some hb q)
    info0Reserved := by simp
    reasonVerdict := by simp }

theorem State.Inv.with_certainty (h : s.Inv) (hb : s.status.busy = false) (w : Word) :
    State.Inv { s with certainty := w } :=
  { h with requestOk := fun q hq => absurd hq (h.wreq_ne_some hb q) }

theorem State.Inv.setWord (h : s.Inv) (hb : s.status.busy = false) (i : RegIx) (j : Nat) (w : Word) :
    (s.setWord i j w).Inv :=
  { h with
    regWords := by
      intro k
      by_cases hk : i = k
      · subst hk
        simpa using h.regWords i
      · simpa [State.reg_setWord_of_ne _ hk] using h.regWords k
    requestOk := fun q hq => absurd hq (h.wreq_ne_some hb q) }

theorem State.Inv.portWrite (h : s.Inv) (w : Word) (g : Target) : (s.portWrite w g).Inv := by
  rcases s.portWrite_cases w g with e | e | e | ⟨-, e⟩ | ⟨hb, e | e | ⟨i, j, -, e⟩⟩ <;> rw [e]
  · exact h
  · exact h.with_ie _
  · exact h.ackStatus w
  · exact h.dropWrite
  · exact h.issue hb w
  · exact h.with_certainty hb w
  · exact h.setWord hb i j w

theorem State.Inv.transact (h : s.Inv) (x : Transaction) : (s.transact x).Inv := by
  rcases s.transact_cases x with ⟨r, k, e⟩ | ⟨a, w, g, -, -, e⟩ <;> rw [e]
  · exact (h.with_draws k).respond r
  · exact (h.portWrite w g).respond _

/-! ### The witness source and the reset agent -/

theorem State.Inv.answerWitness (h : s.Inv) (wErr : Bool) (wData : Nat) : (s.answerWitness wErr wData).Inv := by
  unfold State.answerWitness
  split
  · next hb =>
    exact { h with
      answersFit := by
        intro v hv
        rcases List.mem_append.mp hv with hv | hv
        · exact h.answersFit v hv
        · exact witnessAnswer_range (List.mem_singleton.mp hv).symm
      idleNoWitness := by simp [hb]
      requestOk := by simp }
  · exact h

theorem State.Inv.resetEngine (h : s.Inv) : s.resetEngine.Inv where
  instanceOk := h.instanceOk
  regWords := by simp
  busyNotDone := by simp
  busyCleared := by simp
  errorNoResult := by simp
  answersFit := by simp
  idleNoWitness := by simp
  requestOk := by simp
  info0Reserved := by simp
  reasonVerdict := by simp

/-! ### The engine -/

/-- A completion of a legal outcome establishes the invariant, whatever was in flight before (R87). -/
theorem inv_complete {r : ResultCode} {e : ErrCode} {a : Word} (hp : s.param.wf = true)
    (hl : ∀ i, (s.reg i).length = s.param.opw32) (he : e ≠ .none → r = .none) (ha : a &&& 0xFFFF00F0 = 0)
    (hv : a.extractLsb' 0 4 ≠ 0 ↔ r = .prime ∨ r = .composite) (b : Word) : (s.complete r e a b).Inv where
  instanceOk := hp
  regWords := hl
  busyNotDone := by simp
  busyCleared := by simp
  errorNoResult := he
  answersFit := by simp
  idleNoWitness := by simp
  requestOk := by simp
  info0Reserved := ha
  reasonVerdict := hv

theorem State.Inv.raise (h : s.Inv) (e : ErrCode) (b : Word) : (s.raise e b).Inv :=
  inv_complete h.instanceOk h.regWords (by simp) (by simp) (by simp) b

theorem State.Inv.complete_noInv (h : s.Inv) (b : Word) : (s.complete .noInv .none 0 b).Inv :=
  inv_complete h.instanceOk h.regWords (by simp) (by simp) (by simp) b

theorem State.Inv.complete_value (h : s.Inv) (rd : RegIx) (v : Int) (b : Word) :
    ((s.writeResult rd v).complete .value .none 0 b).Inv := by
  have hl : ∀ i, ((s.writeResult rd v).reg i).length = s.param.opw32 := by
    intro i
    by_cases hi : rd = i
    · subst hi
      simp
    · rw [State.reg_writeResult_of_ne _ hi]
      exact h.regWords i
  exact inv_complete (s := s.writeResult rd v) h.instanceOk hl (by simp) (by simp) (by simp) b

/-- A verdict with a named reason shows it in INFO0 (R36, R151). -/
theorem State.Inv.complete_verdict (h : s.Inv) {r : ResultCode} {reason : Reason} (hr : r = .prime ∨ r = .composite)
    (hreason : reason ≠ .none) (p : Nat) (b : Word) : (s.complete r .none (info0Word reason p) b).Inv := by
  have hcode : (info0Word reason p).extractLsb' 0 4 ≠ 0 := by
    rw [info0Word_reason]
    exact (reasonCode_eq_zero_iff reason).not.mpr hreason
  exact inv_complete h.instanceOk h.regWords (by simp) (info0Word_reserved reason p) (iff_of_true hcode hr) b

/-- What PRIMETEST reports keeps the invariant: a completion, or the request of the next round (R39, R147). -/
theorem State.Inv.report (h : s.Inv) (hb : s.status.busy = true) {rs1 : RegIx}
    (hd : decode s.cmd = .ok (.primetest rs1)) {v : Verdict}
    (hv : v.Allowed s.certainty.toNat s.witness.length) : (s.report (s.reg rs1).val v).Inv := by
  cases v with
  | prime reason p k => exact h.complete_verdict (.inl rfl) hv p _
  | composite reason p k => exact h.complete_verdict (.inr rfl) hv p _
  | wfail i => exact h.raise .witness _
  | waiting i =>
    obtain ⟨hi, hc⟩ := hv
    have hround : (BitVec.ofNat 32 i).toNat = i := by
      rw [BitVec.toNat_ofNat, Nat.mod_eq_of_lt (hc.trans s.certainty.isLt)]
    exact { h with
      idleNoWitness := by simp [State.report, hb]
      requestOk := by
        rintro q ⟨⟩
        exact ⟨rfl, hround.trans hi, hround.trans_lt hc, rs1, hd, rfl⟩ }

theorem State.Inv.after_exec {i : Instr} (h : s.Inv) (hb : s.status.busy = true) (hd : decode s.cmd = .ok i)
    (hx : exec i s = .next t) : t.Inv := by
  have hn := h.noteSources i.sources
  cases i with
  | modpow rd rs1 rs2 rs3 =>
    rw [exec_modpow] at hx
    cases hx
    rcases State.finishModpow_cases (s.noteSources [rs1, rs2, rs3]) rd (s.reg rs1).val (s.reg rs2).val
      (s.reg rs3).val with ⟨-, e⟩ | ⟨-, -, e⟩ | ⟨-, -, e⟩ <;> rw [e]
    · exact hn.raise _ _
    · exact hn.raise _ _
    · exact hn.complete_value _ _ _
  | modinv rd rs1 rs2 =>
    rw [exec_modinv] at hx
    cases hx
    rcases State.finishModinv_cases (s.noteSources [rs1, rs2]) rd (s.reg rs1).val (s.reg rs2).val with
      ⟨-, e⟩ | ⟨-, -, e⟩ | ⟨-, -, -, e⟩ | ⟨-, -, x, -, e⟩ <;> rw [e]
    · exact hn.raise _ _
    · exact hn.raise _ _
    · exact hn.complete_noInv _
    · exact hn.complete_value _ _ _
  | primetest rs1 =>
    rw [exec_primetest] at hx
    cases hx
    rcases State.finishPrimetest_cases (s.noteSources [rs1]) (s.reg rs1).val with ⟨-, e⟩ | ⟨-, e⟩ <;> rw [e]
    · exact hn.raise _ _
    · exact hn.report (rs1 := rs1) hb hd (primeTest_allowed _ _ _ _ _)

theorem State.Inv.after_engineStep (h : s.Inv) (he : s.engineStep = .next t) : t.Inv := by
  rcases State.engineStep_cases he with ⟨-, rfl⟩ | ⟨-, -, rfl⟩ | ⟨-, -, rfl⟩ | ⟨hb, i, hd, hx⟩
  · exact h
  · exact h.raise _ _
  · exact h.raise _ _
  · exact h.after_exec hb hd hx

theorem State.Inv.after_step (h : s.Inv) (hs : step s = .next t) : t.Inv := by
  rcases step_cases hs with ⟨x, rest, -, rfl⟩ | ⟨e, d, rest, -, rfl⟩ | ⟨rest, -, rfl⟩ | ⟨-, he⟩
  · exact (h.with_agenda rest).transact x
  · exact (h.with_agenda rest).answerWitness e d
  · exact (h.with_agenda rest).resetEngine
  · exact (h.with_agenda _).after_engineStep he

end Sys2Proof.Machine

namespace Sys2Proof.Proofs

open Sys2Proof.Machine

/-- Settles O15: each agent's move keeps the invariant. -/
theorem everyStepKeepsTheInvariant : Obligations.EveryStepKeepsTheInvariant := by
  unfold Obligations.EveryStepKeepsTheInvariant
  exact fun s t h hs => h.after_step hs

end Sys2Proof.Proofs
end

section
/-! The rules of 10_state.md for the whole machine, from the rules of its step. -/

namespace Sys2Proof

/-- The ranges of R6, of the number of words and of the window. -/
theorem Params.wf_iff (p : Params) :
    p.wf = true ↔ (2 ≤ p.opw32 ∧ p.opw32 ≤ 960) ∧ 1 ≤ p.kWin ∧ p.kWin ≤ 8 := by
  simp only [Params.wf, Params.opwOk, Params.kWinOk, Bool.and_eq_true, decide_eq_true_eq]
  unfold Params.opw
  omega

end Sys2Proof

namespace Sys2Proof.Machine

variable {s t : State}

/-! ### The control words -/

/-- The fields of STATUS above the flags (R30). -/
theorem Status.word_fields (u : Status) :
    u.word.extractLsb' 4 4 = u.result.code ∧ u.word.extractLsb' 8 8 = u.err.code ∧
      u.word.extractLsb' 16 16 = 0 := by
  refine ⟨?_, ?_, ?_⟩
  all_goals
    apply BitVec.eq_of_getLsbD_eq
    intro k hk
    simp only [Status.word]
    interval_cases k <;> simp

/-- The fields of PARAM, cut to their widths (R32). -/
theorem paramWord_fields (p : Params) :
    (paramWord p).extractLsb' 0 8 = BitVec.ofNat 8 p.kWin ∧
    (paramWord p).extractLsb' 8 8 = BitVec.ofNat 8 Config.nreg ∧
    (paramWord p).extractLsb' 16 10 = BitVec.ofNat 10 p.opw32 ∧
    (paramWord p).extractLsb' 26 2 = 0 ∧
    (paramWord p).extractLsb' 28 1 = mrLimBit p.mrLim ∧
    (paramWord p).extractLsb' 29 3 = 0 := by
  refine ⟨?_, ?_, ?_, ?_, ?_, ?_⟩
  all_goals
    apply BitVec.eq_of_getLsbD_eq
    intro k hk
    simp only [paramWord, Config.nreg]
    interval_cases k <;> simp

/-! ### PARAM -/

/-- No step changes the parameters (R32). -/
theorem step_param (h : step s = .next t) : t.param = s.param := by
  rcases step_cases h with ⟨x, rest, -, rfl⟩ | ⟨e, d, rest, -, rfl⟩ | ⟨rest, -, rfl⟩ | ⟨-, he⟩
  · exact State.transact_param _ x
  · exact State.answerWitness_param _ e d
  · rfl
  · have hp := State.engineStep_param he
    exact hp

/-! ### Host and witness moves while a command is in flight -/

/-- A host or witness move leaves BUSY and all that the completion step reads of the operands and the command (R35,
R84). -/
theorem step_outside_busy {m : Move} {rest : List Move} (hb : s.status.busy = true) (ha : s.agenda = m :: rest)
    (hm : m.isOutside = true) : ∃ t, step s = .next t ∧
    t.regs = s.regs ∧ t.certainty = s.certainty ∧ t.cmd = s.cmd ∧ t.param = s.param ∧ t.status.busy = true ∧
      t.agenda = rest := by
  cases m with
  | host x =>
    obtain ⟨hregs, hcert, hcmd, hbusy⟩ := State.transact_busy (s := { s with agenda := rest }) hb x
    exact ⟨_, step_host ha, hregs, hcert, hcmd, State.transact_param _ x, hbusy, State.transact_agenda _ x⟩
  | witness e d => exact ⟨_, step_witness ha, by simp [hb]⟩
  | engine => cases hm
  | reset => cases hm

end Sys2Proof.Machine

namespace Sys2Proof.Proofs

open Sys2Proof.Machine

/-- Settles O20: by induction on the moves, one of them being `step_outside_busy`. -/
theorem operandsStableWhileInFlight : Obligations.OperandsStableWhileInFlight := by
  unfold Obligations.OperandsStableWhileInFlight
  intro s t ms rest hb hms ha hrun
  induction ms generalizing s with
  | nil =>
    cases hrun
    exact ⟨rfl, rfl, rfl, rfl, hb, ha⟩
  | cons m ms ih =>
    obtain ⟨hm, hms⟩ := List.forall_mem_cons.mp hms
    obtain ⟨u, hstep, hregs, hcert, hcmd, hparam, hbusy, hagenda⟩ := step_outside_busy hb ha hm
    have hrun' : Sys2Proof.core.run ms.length u = .next t := by
      have e : Sys2Proof.core.step s = .next u := hstep
      simpa only [List.length_cons, Host.Core.run, e] using hrun
    obtain ⟨hregs', hcert', hcmd', hparam', hbusy', hagenda'⟩ := ih u hbusy hms hagenda hrun'
    exact ⟨hregs'.trans hregs, hcert'.trans hcert, hcmd'.trans hcmd, hparam'.trans hparam, hbusy', hagenda'⟩

/-- Settles O9: only the engine's turn records the model fault. -/
theorem modelFaultIsRecordedAndNeverCleared : Obligations.ModelFaultIsRecordedAndNeverCleared := by
  unfold Obligations.ModelFaultIsRecordedAndNeverCleared
  intro s
  obtain ⟨t, ht⟩ := step_answers_next s
  refine ⟨t, ht, ?_⟩
  rcases step_cases ht with ⟨x, rest, ha, rfl⟩ | ⟨e, d, rest, ha, rfl⟩ | ⟨rest, ha, rfl⟩ | ⟨hturn, he⟩
  · simp [ha]
  · simp [ha]
  · simp [ha]
  · exact (State.engineStep_modelFault he).trans (or_congr_right (and_iff_right hturn).symm)

/-- Settles O16: a transaction changes the outcome by an issue alone, the engine by a completion alone. -/
theorem outcomeChangesOnlyByIssueCompletionReset : Obligations.OutcomeChangesOnlyByIssueCompletionReset := by
  unfold Obligations.OutcomeChangesOnlyByIssueCompletionReset
  intro s t ht hne
  rcases step_cases ht with ⟨x, rest, ha, rfl⟩ | ⟨e, d, rest, ha, rfl⟩ | ⟨rest, ha, rfl⟩ | ⟨hturn, he⟩
  · rcases State.transact_cases { s with agenda := rest } x with ⟨r, k, e⟩ | ⟨a, w, g, rfl, hg, e⟩ <;>
      rw [e] at hne ⊢
    · exact absurd rfl hne
    · rcases State.portWrite_outcome { s with agenda := rest } w g with ⟨rfl, hb, hb'⟩ | ⟨hb, hr, herr⟩
      · rw [target_eq_cmd_iff.mp hg] at ha
        exact .inl ⟨w, rest, ha, hb, hb'⟩
      · exact absurd (by simp [hb, hr, herr]) hne
  · exact absurd (by simp) hne
  · exact .inr (.inr (by simp [ha]))
  · rcases State.engineStep_outcome he with hst | ⟨hb, hb', hd⟩
    · exact absurd (by rw [hst]) hne
    · exact .inr (.inl ⟨hturn, hb, hb', hd⟩)

/-- Settles O17: a transaction writes a register by a port write alone, the engine its command's destination alone. -/
theorem operandRegisterWriters : Obligations.OperandRegisterWriters := by
  unfold Obligations.OperandRegisterWriters
  intro s t k ht hne
  rcases step_cases ht with ⟨x, rest, ha, rfl⟩ | ⟨e, d, rest, ha, rfl⟩ | ⟨rest, ha, rfl⟩ | ⟨hturn, he⟩
  · rcases State.transact_cases { s with agenda := rest } x with ⟨r, n, e⟩ | ⟨a, w, g, rfl, hg, e⟩ <;>
      rw [e] at hne ⊢
    · exact absurd rfl hne
    · rcases State.portWrite_reg { s with agenda := rest } w g k with hk | ⟨j, hb, rfl, hk⟩
      · exact absurd hk hne
      · exact .inl ⟨a, w, rest, j, ha, hb, hg, hk⟩
  · exact absurd (State.answerWitness_reg _ e d k) hne
  · exact .inr (.inr (by simp [ha]))
  · rcases State.engineStep_reg he k with hk | ⟨hb, hi, hres, herr, hlen, hw⟩
    · exact absurd hk hne
    · exact .inr (.inl ⟨hturn, hb, hi, hres, herr, hlen, hw⟩)

/-- Settles O18: the frame of a command, and what the port reads across it. -/
theorem commandFrame : Obligations.CommandFrame := by
  unfold Obligations.CommandFrame
  intro i s t h
  obtain ⟨hf, hnone⟩ := exec_completionFrame h
  refine ⟨hf, hnone, fun a ha => ?_⟩
  rw [State.peekByte, State.peekByte, hf.peek_eq _ ha]

/-- Settles O21: the fields of the word, the port at 0x004, and `step_param`. -/
theorem paramIsConstantAndReportsTheInstance : Obligations.ParamIsConstantAndReportsTheInstance := by
  unfold Obligations.ParamIsConstantAndReportsTheInstance
  refine ⟨?_, by decide, ?_, ?_, fun s t => step_param⟩
  · intro p hp
    rw [Params.wf_iff] at hp
    obtain ⟨hk, hreg, hopw, hrsv, hlim, htop⟩ := paramWord_fields p
    rw [hk, hreg, hopw, hlim, BitVec.toNat_ofNat, BitVec.toNat_ofNat, BitVec.toNat_ofNat]
    refine ⟨by omega, rfl, by omega, hrsv, ?_, ?_, htop⟩ <;> cases p.mrLim <;> decide
  · intro s
    rw [State.peek, target_param]
    rfl
  · intro s w strb
    rcases s.hostWrite_cases 0x004 w strb with h | ⟨g, -, hg, h⟩
    · exact ⟨true, h⟩
    · rw [target_param, Option.some.injEq] at hg
      subst hg
      exact ⟨false, h⟩

/-- Settles O39: the answered rounds pass, and the next one waits. -/
theorem unansweredWitnessLeavesTheRequestInFlight : Obligations.UnansweredWitnessLeavesTheRequestInFlight := by
  unfold Obligations.UnansweredWitnessLeavesTheRequestInFlight
  intro rs1 s hw h0 hr hc hpass hgood
  obtain ⟨k, hk⟩ : ∃ k, s.certainty.toNat = s.witness.length + (k + 1) + 1 :=
    ⟨s.certainty.toNat - (s.witness.length + 2), by omega⟩
  have hwait : s.roundsFrom (s.reg rs1).val s.certainty.toNat 0 s.witness = .waiting (s.witness.length + 1) := by
    have hskip := State.roundsFrom_append_of_passes hgood (k + 1) 0 []
    rw [List.append_nil] at hskip
    rw [hk, State.roundsFrom_zero_of_pass hpass, hskip]
    exact s.roundsFrom_succ_nil _ k s.witness.length
  rw [exec_primetest_of_reachesRounds hw h0 hr, hwait]
  rfl

/-- Settles O53: the flags bit by bit, and the codes of the two outcome fields. -/
theorem statusWordLayout : Obligations.StatusWordLayout := by
  unfold Obligations.StatusWordLayout
  intro u
  obtain ⟨hres, herr, hrsv⟩ := u.word_fields
  rw [hres, herr]
  refine ⟨by simp [Status.word], by simp [Status.word], by simp [Status.word], by simp [Status.word], ?_, ?_, hrsv⟩
  · cases u.result <;> rfl
  · cases u.err <;> rfl

end Sys2Proof.Proofs
end

section
/-! The address map as the inverse of the byte addresses of what it names (R51, R57, R58), and O45 from it. -/

namespace Sys2Proof

theorem Params.opw_div_eight (p : Params) : p.opw / 8 = 4 * p.opw32 := by
  unfold Params.opw
  omega

theorem Params.opw_div_word (p : Params) : p.opw / 32 = p.opw32 := by
  unfold Params.opw
  omega

end Sys2Proof

namespace Sys2Proof.Machine

/-- The byte address of what a target names: `4 k` for control word `k`, and `0x1000 + i*RBYTES + 4*j` (R27, R51). -/
def Target.byteAddr (p : Params) : Target → Nat
  | .id          => 0x000
  | .param       => 0x004
  | .ctrl        => 0x008
  | .status      => 0x00C
  | .cmd         => 0x010
  | .certainty   => 0x014
  | .info0       => 0x018
  | .info1       => 0x01C
  | .regWord i j => 0x1000 + i.toNat * (4 * p.opw32) + 4 * j

/-- A word of a register is one of the OPW/32 of its register (R52). -/
def Target.inRange (p : Params) : Target → Prop
  | .regWord _ j => j < p.opw32
  | _            => True

variable {p : Params} {a : Addr} {g : Target}

/-! ### One rule for each range of addresses -/

/-- Misaligned, between the control words and the register space, or behind it (R57, R58). -/
theorem target_eq_none (h : a.toNat % 4 ≠ 0 ∨ (0x20 ≤ a.toNat ∧ a.toNat < 0x1000) ∨
    0x1000 + 16 * (4 * p.opw32) ≤ a.toNat) : target p a = none := by
  simp only [target]
  split_ifs with halign hctrl hgap hregs
  · rfl
  · omega
  · rfl
  · omega
  · rfl

theorem target_of_lt (ha : a.toNat % 4 = 0) (h : a.toNat < 0x20) : target p a = controlTarget (a.toNat / 4) := by
  simp [target, ha, h]

theorem target_of_registerSpace (ha : a.toNat % 4 = 0) (hlo : 0x1000 ≤ a.toNat)
    (hhi : a.toNat < 0x1000 + 16 * (4 * p.opw32)) : target p a =
      some (.regWord (BitVec.ofNat 4 ((a.toNat - 0x1000) / (4 * p.opw32)))
        ((a.toNat - 0x1000) % (4 * p.opw32) / 4)) := by
  simp [target, ha, hhi, show ¬ a.toNat < 0x20 by omega, show ¬ a.toNat < 0x1000 by omega]

/-- The aligned addresses of the two mapped ranges are the accessible ones (R57). -/
theorem mapped_of_target_eq_some (h : target p a = some g) : a.toNat % 4 = 0 ∧
    (a.toNat < 0x20 ∨ (0x1000 ≤ a.toNat ∧ a.toNat < 0x1000 + 16 * (4 * p.opw32))) := by
  by_contra hn
  rw [target_eq_none (by omega)] at h
  cases h

/-! ### The map is the inverse of `Target.byteAddr` -/

theorem controlTarget_byteAddr {k : Nat} (h : controlTarget k = some g) :
    g.byteAddr p = 4 * k ∧ g.inRange p := by
  unfold controlTarget at h
  split at h <;> cases h <;> exact ⟨rfl, trivial⟩

theorem controlTarget_of_lt {k : Nat} (h : k < 8) : ∃ g, controlTarget k = some g := by
  interval_cases k <;> exact ⟨_, rfl⟩

theorem byteAddr_of_target_eq_some (h : target p a = some g) : a.toNat = g.byteAddr p ∧ g.inRange p := by
  obtain ⟨halign, hctrl | ⟨hlo, hhi⟩⟩ := mapped_of_target_eq_some h
  · rw [target_of_lt halign hctrl] at h
    obtain ⟨haddr, hin⟩ := controlTarget_byteAddr (p := p) h
    exact ⟨by omega, hin⟩
  · rw [target_of_registerSpace halign hlo hhi] at h
    cases h
    have hq : (a.toNat - 0x1000) / (4 * p.opw32) < 16 := Nat.div_lt_of_lt_mul (by omega)
    have hr : (a.toNat - 0x1000) % (4 * p.opw32) < 4 * p.opw32 := Nat.mod_lt _ (by omega)
    have hqr := Nat.div_add_mod' (a.toNat - 0x1000) (4 * p.opw32)
    have hdvd : (a.toNat - 0x1000) % (4 * p.opw32) % 4 = (a.toNat - 0x1000) % 4 :=
      Nat.mod_mod_of_dvd _ (Nat.dvd_mul_right 4 p.opw32)
    simp only [Target.byteAddr, Target.inRange, BitVec.toNat_ofNat, Nat.mod_eq_of_lt hq]
    omega

/-- The word address of `R[i]` names its word `j`, which is none of the words of another register (R51). -/
theorem target_of_regWord_byteAddr {i : RegIx} {j : Nat} (hj : j < p.opw32)
    (ha : a.toNat = (Target.regWord i j).byteAddr p) : target p a = some (.regWord i j) := by
  have hi := i.isLt
  simp only [Target.byteAddr] at ha
  have hoff : a.toNat - 0x1000 = 4 * j + i.toNat * (4 * p.opw32) := by omega
  have hend : i.toNat * (4 * p.opw32) ≤ 15 * (4 * p.opw32) := Nat.mul_le_mul_right _ (by omega)
  have halign : a.toNat % 4 = 0 := by
    rw [ha, Nat.mul_left_comm]
    omega
  rw [target_of_registerSpace halign (by omega) (by omega), hoff, Nat.add_mul_div_right _ _ (by omega),
    Nat.add_mul_mod_self_right, Nat.div_eq_of_lt (by omega), Nat.mod_eq_of_lt (by omega), Nat.zero_add,
    BitVec.ofNat_toNat, BitVec.setWidth_eq, Nat.mul_div_cancel_left j (by omega)]

theorem target_eq_regWord_iff {i : RegIx} {j : Nat} : target p a = some (.regWord i j) ↔
    j < p.opw32 ∧ a.toNat = 0x1000 + i.toNat * (4 * p.opw32) + 4 * j :=
  ⟨fun h => (byteAddr_of_target_eq_some h).symm, fun ⟨hj, ha⟩ => target_of_regWord_byteAddr hj ha⟩

/-- No address aliases another (R58). -/
theorem target_injective {b : Addr} (ha : target p a = some g) (hb : target p b = some g) : a = b :=
  BitVec.eq_of_toNat_eq ((byteAddr_of_target_eq_some ha).1.trans (byteAddr_of_target_eq_some hb).1.symm)

theorem target_isMapped (halign : a.toNat % 4 = 0)
    (h : a.toNat < 0x20 ∨ (0x1000 ≤ a.toNat ∧ a.toNat < 0x1000 + 16 * (4 * p.opw32))) :
    ∃ g, target p a = some g := by
  rcases h with hctrl | ⟨hlo, hhi⟩
  · rw [target_of_lt halign hctrl]
    exact controlTarget_of_lt (by omega)
  · exact ⟨_, target_of_registerSpace halign hlo hhi⟩

end Sys2Proof.Machine

namespace Sys2Proof.Proofs

open Sys2Proof.Machine

/-- Settles O45: the ranges of the map, and that it inverts the byte addresses of what it names. -/
theorem addressMapHasNoAliases : Obligations.AddressMapHasNoAliases := by
  unfold Obligations.AddressMapHasNoAliases
  intro p _
  rw [p.opw_div_eight, p.opw_div_word]
  exact ⟨fun a h => target_eq_none (.inr h), fun a => target_isMapped, fun a b g => target_injective,
    fun a i j => target_eq_regWord_iff⟩

end Sys2Proof.Proofs
end

section
/-! The words of a register are the slices of the two's-complement pattern of its value (R10, R21, R52), and O51. -/

namespace Sys2Proof.Machine

/-- A slice of the pattern of `v` is the pattern of the quotient that stands there. -/
theorem extractLsb'_ofInt {w start len : Nat} (h : start + len ≤ w) (v : Int) :
    (BitVec.ofInt w v).extractLsb' start len = BitVec.ofInt len (v / 2 ^ start) := by
  have hw : (2 : Int) ^ w = 2 ^ start * 2 ^ (w - start) := by rw [← pow_add, Nat.add_sub_cancel' (by omega)]
  have hdvd : (2 : Int) ^ len ∣ 2 ^ (w - start) := pow_dvd_pow 2 (by omega)
  have hslice : v % 2 ^ w / 2 ^ start % 2 ^ len = v / 2 ^ start % 2 ^ len := by
    rw [Int.emod_def v, hw, mul_assoc, Int.sub_mul_ediv_left _ _ (by positivity),
      ← Int.ediv_ediv_of_nonneg (by positivity), ← Int.emod_def, Int.emod_emod_of_dvd _ hdvd]
  obtain ⟨x, hx⟩ := Int.eq_ofNat_of_zero_le (Int.emod_nonneg v (show (2 : Int) ^ w ≠ 0 by positivity))
  apply BitVec.eq_of_toNat_eq
  rw [BitVec.extractLsb'_toNat, BitVec.toNat_ofInt, BitVec.toNat_ofInt, Nat.shiftRight_eq_div_pow]
  push_cast
  rw [← hslice, hx]
  rfl

/-- Word `j` of `enc_OPW(v)` is the pattern of `v` shifted down by `32 j` bits (R52). -/
theorem getElem?_encWords {n j : Nat} (hj : j < n) (v : Int) :
    (encWords n v)[j]? = some (BitVec.ofInt 32 (v / 2 ^ (32 * j))) := by
  induction n generalizing v j with
  | zero => omega
  | succ n ih =>
    cases j with
    | zero => simp [encWords]
    | succ j =>
      rw [encWords, List.getElem?_cons_succ, ih (by omega), Int.ediv_ediv_of_nonneg (by norm_num),
        Nat.mul_succ, pow_add, mul_comm]
      norm_num

theorem encWords_getElem?_eq_slice {n j : Nat} (hj : j < n) (v : Int) :
    (encWords n v)[j]? = some ((BitVec.ofInt (32 * n) v).extractLsb' (32 * j) 32) := by
  rw [getElem?_encWords hj, extractLsb'_ofInt (by omega)]

/-- Words are the encoding of the value they hold, so that `wordsVal_encWords` has a converse (R10). -/
theorem encWords_wordsVal (ws : List Word) : encWords ws.length (wordsVal ws) = ws := by
  induction ws with
  | nil => rfl
  | cons w ws ih =>
    cases ws with
    | nil => simp [encWords, wordsVal]
    | cons v vs =>
      have hw := w.isLt
      have hlow : BitVec.ofInt 32 (w.toNat + 4294967296 * wordsVal (v :: vs)) = w := by
        rw [BitVec.ofInt_add, BitVec.ofInt_mul, BitVec.ofInt_natCast, BitVec.ofNat_toNat]
        simp
      have hhigh : ((w.toNat : Int) + 4294967296 * wordsVal (v :: vs)) / 4294967296 = wordsVal (v :: vs) := by
        omega
      rw [List.length_cons, wordsVal_cons (by simp), encWords, hlow, hhigh, ih]

theorem Reg.bits_eq_slice {r : Reg} {j : Nat} {x : RegWord} (h : r[j]? = some x) :
    x.bits = (BitVec.ofInt (32 * r.length) r.val).extractLsb' (32 * j) 32 := by
  obtain ⟨hj, -⟩ := List.getElem?_eq_some_iff.mp h
  have hword : (r.map RegWord.bits)[j]? = some x.bits := by simp [h]
  rw [← encWords_wordsVal (r.map RegWord.bits), List.length_map, encWords_getElem?_eq_slice hj] at hword
  exact (Option.some.inj hword).symm

/-- Bit 31 of the last word is the sign (R52). -/
theorem wordsVal_neg_iff (ws : List Word) :
    wordsVal ws < 0 ↔ ∃ w, ws.getLast? = some w ∧ w.getLsbD 31 = true := by
  induction ws with
  | nil => simp [wordsVal]
  | cons w ws ih =>
    cases ws with
    | nil =>
      have hmsb : w.toInt < 0 ↔ w.getLsbD 31 = true := by
        rw [← decide_eq_true_iff (p := w.toInt < 0), ← BitVec.msb_eq_toInt, BitVec.msb_eq_getLsbD_last]
      simpa [wordsVal] using hmsb
    | cons v vs =>
      have hw := w.isLt
      rw [List.getLast?_cons_cons, ← ih, wordsVal_cons (by simp)]
      omega

theorem Reg.val_neg_iff (r : Reg) : r.val < 0 ↔ ∃ x, r.getLast? = some x ∧ x.bits.getLsbD 31 = true := by
  rw [Reg.val, wordsVal_neg_iff]
  simp

end Sys2Proof.Machine

namespace Sys2Proof.Proofs

open Sys2Proof.Machine

/-- Settles O51: an encoding's words are slices of the pattern, and a register's words are the encoding of its value. -/
theorem wordsOfARegisterAreThePattern : Obligations.WordsOfARegisterAreThePattern := by
  unfold Obligations.WordsOfARegisterAreThePattern
  refine ⟨fun n v j hj => ?_, Reg.val_neg_iff, fun r j x => Reg.bits_eq_slice⟩
  rw [← List.getElem?_map, Reg.map_bits_ofInt, encWords_getElem?_eq_slice hj]

end Sys2Proof.Proofs
end

section
/-! What the host port answers and does at each accessible address, and at a bus error (R55 to R59): O46, O47, O49. -/

namespace Sys2Proof.Machine

variable {s : State} {a : Addr} {g : Target}

/-! ### The addresses -/

theorem target_id (p : Params) : target p 0x000 = some .id := by simp [target, controlTarget]
theorem target_info0 (p : Params) : target p 0x018 = some .info0 := by simp [target, controlTarget]
theorem target_info1 (p : Params) : target p 0x01C = some .info1 := by simp [target, controlTarget]

/-- For the parameters R6 allows the register space ends inside the 16-bit space, so that no word address wraps. -/
theorem toNat_regWordAddr {p : Params} (hp : p.wf = true) (i : RegIx) {j : Nat} (hj : j < p.opw32) :
    (regWordAddr p i j).toNat = (Target.regWord i j).byteAddr p := by
  obtain ⟨⟨-, hopw⟩, -⟩ := p.wf_iff.mp hp
  have hi := i.isLt
  have hend : i.toNat * (4 * p.opw32) ≤ 15 * (4 * p.opw32) := Nat.mul_le_mul_right _ (by omega)
  exact (BitVec.toNat_ofNat ..).trans (Nat.mod_eq_of_lt (by omega))

theorem target_regWordAddr {p : Params} (hp : p.wf = true) (i : RegIx) {j : Nat} (hj : j < p.opw32) :
    target p (regWordAddr p i j) = some (.regWord i j) :=
  target_of_regWord_byteAddr hj (toNat_regWordAddr hp i hj)

/-! ### The transactions -/

theorem State.hostRead_of_target (h : target s.param a = some g) :
    s.hostRead a = (s.countDraw (s.takesDraw g)).respond (.read (s.portData g) false) := by
  simp [State.hostRead, h]

/-- A read of anything but an unwritten word takes no draw, and so only answers (R55). -/
theorem State.hostRead_of_not_takesDraw (h : target s.param a = some g) (hd : s.takesDraw g = false) :
    s.hostRead a = s.respond (.read (s.portData g) false) := by
  rw [State.hostRead_of_target h, hd]
  rfl

theorem State.hostWrite_of_target (h : target s.param a = some g) (w : Word) :
    s.hostWrite a w 0b1111 = (s.portWrite w g).respond (.write false) := by
  simp [State.hostWrite, h]

theorem State.hostRead_of_unmapped (h : target s.param a = none) : s.hostRead a = s.respond (.read 0 true) := by
  simp [State.hostRead, h]

theorem State.hostWrite_of_unmapped (h : target s.param a = none) (w : Word) (strb : BitVec 4) :
    s.hostWrite a w strb = s.respond (.write true) := by
  simp [State.hostWrite, h]

theorem State.hostWrite_of_partial {strb : BitVec 4} (h : strb ≠ 0b1111) (a : Addr) (w : Word) :
    s.hostWrite a w strb = s.respond (.write true) :=
  if_neg h

/-- The targets whose writes the busy interlock covers (R35). -/
def Target.isInterlocked : Target → Bool
  | .cmd | .certainty | .regWord _ _ => true
  | _                                => false

theorem State.portWrite_interlocked (hb : s.status.busy = true) (hg : g.isInterlocked = true) (w : Word) :
    s.portWrite w g = s.dropWrite := by
  cases g with
  | cmd | certainty | regWord i j => exact if_pos hb
  | _ => cases hg

theorem State.portWrite_cmd_idle (hb : s.status.busy = false) (w : Word) : s.portWrite w .cmd = s.issue w := by
  simp [State.portWrite, hb]

theorem State.portWrite_certainty_idle (hb : s.status.busy = false) (w : Word) :
    s.portWrite w .certainty = { s with certainty := w } := by
  simp [State.portWrite, hb]

theorem State.portWrite_regWord_idle (hb : s.status.busy = false) (w : Word) (i : RegIx) (j : Nat) :
    s.portWrite w (.regWord i j) = s.setWord i j w := by
  simp [State.portWrite, hb]

theorem State.hostWrite_regWord_idle {i : RegIx} {j : Nat} (hp : s.param.wf = true) (hj : j < s.param.opw32)
    (hb : s.status.busy = false) (w : Word) :
    s.hostWrite (regWordAddr s.param i j) w 0b1111 = (s.setWord i j w).respond (.write false) := by
  rw [State.hostWrite_of_target (target_regWordAddr hp i hj), State.portWrite_regWord_idle hb]

/-- A write that the interlock drops sets OVR and answers no bus error (R35, R56, R59). -/
theorem State.hostWrite_interlocked (hb : s.status.busy = true) (h : target s.param a = some g)
    (hg : g.isInterlocked = true) (w : Word) : s.hostWrite a w 0b1111 = s.dropWrite.respond (.write false) := by
  rw [State.hostWrite_of_target h, State.portWrite_interlocked hb hg]

@[simp] theorem State.portWrite_responses (s : State) (w : Word) (g : Target) :
    (s.portWrite w g).responses = s.responses := by
  rcases s.portWrite_cases w g with e | e | e | ⟨-, e⟩ | ⟨-, e | e | ⟨i, j, -, e⟩⟩ <;> simp [e]

/-! ### The current values -/

theorem ctrlWord_eq (ie : Bool) : ctrlWord ie = if ie then 1 else 0 := by cases ie <;> rfl

theorem State.takesDraw_regWord_of_written {i : RegIx} {j : Nat} {x : RegWord} (hx : (s.reg i)[j]? = some x)
    (hw : x.written = true) : s.takesDraw (.regWord i j) = false := by
  simp [State.takesDraw, State.isWritten, hx, hw]

theorem State.portData_regWord_of_written {i : RegIx} {j : Nat} {x : RegWord} (hx : (s.reg i)[j]? = some x)
    (hw : x.written = true) : s.portData (.regWord i j) = x.bits := by
  simp [State.portData, State.isWritten, hx, hw]

end Sys2Proof.Machine

namespace Sys2Proof.Proofs

open Sys2Proof.Machine

/-- Settles O46: a control register and a written word take no draw, and a draw changes the model's counter alone. -/
theorem hostReadReturnsTheCurrentValue : Obligations.HostReadReturnsTheCurrentValue := by
  unfold Obligations.HostReadReturnsTheCurrentValue
  intro s hp
  refine ⟨fun a g hg => ?_, State.hostRead_of_not_takesDraw (target_id _) rfl,
    State.hostRead_of_not_takesDraw (target_param _) rfl, ?_,
    State.hostRead_of_not_takesDraw (target_status _) rfl, State.hostRead_of_not_takesDraw (target_cmd _) rfl,
    State.hostRead_of_not_takesDraw (target_certainty _) rfl,
    State.hostRead_of_not_takesDraw (target_info0 _) rfl, State.hostRead_of_not_takesDraw (target_info1 _) rfl,
    fun i j x hj hx hw => ?_⟩
  · refine ⟨s.portData g, (s.countDraw (s.takesDraw g)).draws, (State.hostRead_of_target hg).trans ?_⟩
    cases s.takesDraw g <;> rfl
  · rw [← ctrlWord_eq]
    exact State.hostRead_of_not_takesDraw (target_ctrl _) rfl
  · rw [State.hostRead_of_not_takesDraw (target_regWordAddr hp i hj) (State.takesDraw_regWord_of_written hx hw),
      State.portData_regWord_of_written hx hw]

/-- Settles O47: the port write of each target, dropped by the interlock or not. -/
theorem hostWriteEffects : Obligations.HostWriteEffects := by
  unfold Obligations.HostWriteEffects
  intro s w hp
  refine ⟨State.hostWrite_of_target (target_id _) w, State.hostWrite_of_target (target_param _) w,
    State.hostWrite_of_target (target_info0 _) w, State.hostWrite_of_target (target_info1 _) w,
    State.hostWrite_of_target (target_ctrl _) w, State.hostWrite_of_target (target_status _) w,
    fun hb => ?_, fun hb => ?_⟩
  · exact ⟨State.hostWrite_interlocked hb (target_cmd _) rfl w,
      State.hostWrite_interlocked hb (target_certainty _) rfl w,
      fun i j hj => State.hostWrite_interlocked hb (target_regWordAddr hp i hj) rfl w⟩
  · refine ⟨?_, ?_, fun i j hj => State.hostWrite_regWord_idle hp hj hb w⟩
    · rw [State.hostWrite_of_target (target_cmd _), State.portWrite_cmd_idle hb]
    · rw [State.hostWrite_of_target (target_certainty _), State.portWrite_certainty_idle hb]

/-- Settles O49: at an address that is not accessible, and without a full strobe, the port only answers. -/
theorem busErrorHasNoEffect : Obligations.BusErrorHasNoEffect := by
  unfold Obligations.BusErrorHasNoEffect
  intro s a w strb
  refine ⟨fun h => ?_, fun h => State.hostWrite_of_partial h a w, fun _ hs g hg => ?_⟩
  · have hnone : target s.param a = none := target_eq_none (by omega)
    rw [State.hostRead_of_unmapped hnone, State.hostWrite_of_unmapped hnone]
    exact ⟨rfl, rfl, rfl, rfl⟩
  · rw [hs, State.hostWrite_of_target hg]
    simp

end Sys2Proof.Proofs
end

section
/-! The bytes of the register space (R53) and host writes of whole values (R70, R92): O50 and O52. -/

namespace Sys2Proof.Machine

variable {s : State}

/-! ### Bytes -/

/-- Clearing the two low bits of an address is going back to its word (R53). -/
theorem and_0xFFFC (a : Addr) : a &&& 0xFFFC = BitVec.ofNat 16 (a.toNat - a.toNat % 4) := by
  have hshift : a &&& (0xFFFC : Addr) = (a >>> 2) <<< 2 := by
    apply BitVec.eq_of_getLsbD_eq
    intro k hk
    interval_cases k <;> simp
  have ha := a.isLt
  apply BitVec.eq_of_toNat_eq
  rw [hshift, BitVec.toNat_shiftLeft, BitVec.toNat_ushiftRight, BitVec.toNat_ofNat, Nat.shiftLeft_eq,
    Nat.shiftRight_eq_div_pow]
  omega

theorem State.peekByte_eq (s : State) (a : Addr) : s.peekByte a =
    (s.peek (BitVec.ofNat 16 (a.toNat - a.toNat % 4))).map fun w => w.extractLsb' (8 * (a.toNat % 4)) 8 := by
  rw [State.peekByte, and_0xFFFC]

theorem State.peek_regWordAddr {i : RegIx} {j : Nat} {x : RegWord} (hp : s.param.wf = true) (hj : j < s.param.opw32)
    (hx : (s.reg i)[j]? = some x) (hw : x.written = true) : s.peek (regWordAddr s.param i j) = some x.bits := by
  simp [State.peek, target_regWordAddr hp i hj, State.takesDraw_regWord_of_written hx hw,
    State.portData_regWord_of_written hx hw]

/-- A slice of a slice. -/
theorem extractLsb'_extractLsb' {w start len start' len' : Nat} (h : start' + len' ≤ len) (x : BitVec w) :
    (x.extractLsb' start len).extractLsb' start' len' = x.extractLsb' (start + start') len' := by
  apply BitVec.eq_of_getLsbD_eq
  intro k hk
  simp only [BitVec.getLsbD_extractLsb', hk, decide_true, Bool.true_and, Nat.add_assoc]
  rw [decide_eq_true (by omega), Bool.true_and]

/-- The byte addresses of word `j` of `R[i]` name its four lanes (R53). -/
theorem State.peekByte_regWordAddr_add (hp : s.param.wf = true) (i : RegIx) {j b : Nat} (hj : j < s.param.opw32)
    (hb : b < 4) : s.peekByte (BitVec.ofNat 16 ((regWordAddr s.param i j).toNat + b)) =
      (s.peek (regWordAddr s.param i j)).map fun w => w.extractLsb' (8 * b) 8 := by
  obtain ⟨halign, -⟩ := mapped_of_target_eq_some (target_regWordAddr hp i hj)
  have hlt := (regWordAddr s.param i j).isLt
  have haddr : (BitVec.ofNat 16 ((regWordAddr s.param i j).toNat + b)).toNat = (regWordAddr s.param i j).toNat + b :=
    (BitVec.toNat_ofNat ..).trans (Nat.mod_eq_of_lt (by omega))
  have hlane : ((regWordAddr s.param i j).toNat + b) % 4 = b := by omega
  rw [State.peekByte_eq, haddr, hlane, Nat.add_sub_cancel, BitVec.ofNat_toNat, BitVec.setWidth_eq]

/-- Byte `k` of a register is lane `k mod 4` of its word `k / 4`, and so byte `k` of the pattern (R52, R53). -/
theorem State.peekByte_register (hp : s.param.wf = true) {i : RegIx} {k : Nat}
    (hl : (s.reg i).length = s.param.opw32) (hw : (s.reg i).allWritten = true) (hk : k < 4 * s.param.opw32) :
    s.peekByte (BitVec.ofNat 16 (0x1000 + i.toNat * (4 * s.param.opw32) + k)) =
      some ((BitVec.ofInt (32 * s.param.opw32) (s.reg i).val).extractLsb' (8 * k) 8) := by
  have hj : k / 4 < s.param.opw32 := by omega
  have haddr : 0x1000 + i.toNat * (4 * s.param.opw32) + k = (regWordAddr s.param i (k / 4)).toNat + k % 4 := by
    rw [toNat_regWordAddr hp i hj, Target.byteAddr]
    omega
  obtain ⟨x, hx⟩ : ∃ x, (s.reg i)[k / 4]? = some x := ⟨_, List.getElem?_eq_getElem (by omega)⟩
  have hxw : x.written = true := List.all_eq_true.mp hw x (List.mem_of_getElem? hx)
  rw [haddr, State.peekByte_regWordAddr_add hp i hj (Nat.mod_lt k (by omega)), State.peek_regWordAddr hp hj hx hxw,
    Option.map_some, Reg.bits_eq_slice hx, hl, extractLsb'_extractLsb' (by omega),
    show 32 * (k / 4) + 8 * (k % 4) = 8 * k by omega]

/-! ### Whole values -/

/-- The writes of words to `R[i]`, in increasing order from word `k` on (R92 `setr`). -/
def wordWrites (p : Params) (i : RegIx) (k : Nat) (ws : List Word) : List Transaction :=
  ws.mapIdx fun j w => .write (regWordAddr p i (k + j)) w 0b1111

theorem setrWrites_eq_wordWrites (p : Params) (i : RegIx) (v : Int) :
    setrWrites p i v = wordWrites p i 0 (encWords p.opw32 v) := by
  simp [setrWrites, wordWrites]

theorem wordWrites_cons (p : Params) (i : RegIx) (k : Nat) (w : Word) (ws : List Word) :
    wordWrites p i k (w :: ws) = .write (regWordAddr p i k) w 0b1111 :: wordWrites p i (k + 1) ws := by
  simp [wordWrites, Nat.add_assoc, Nat.add_comm 1]

/-- What host writes to words of `R[i]` leave unchanged while BUSY = 0 (R56). -/
structure OnlyRegisterChanges (i : RegIx) (s t : State) : Prop where
  others : ∀ k, k ≠ i → t.reg k = s.reg k
  param  : t.param = s.param
  status : t.status = s.status
  cmd    : t.cmd = s.cmd

theorem OnlyRegisterChanges.refl (i : RegIx) (s : State) : OnlyRegisterChanges i s s :=
  ⟨fun _ _ => rfl, rfl, rfl, rfl⟩

theorem OnlyRegisterChanges.trans {i : RegIx} {s t u : State} (h : OnlyRegisterChanges i s t)
    (h' : OnlyRegisterChanges i t u) : OnlyRegisterChanges i s u :=
  ⟨fun k hk => (h'.others k hk).trans (h.others k hk), h'.param.trans h.param, h'.status.trans h.status,
    h'.cmd.trans h.cmd⟩

/-- A write of a register word while BUSY = 0, as a step. -/
theorem step_setWord {i : RegIx} {j : Nat} {w : Word} {rest : List Move} (hp : s.param.wf = true)
    (hj : j < s.param.opw32) (hb : s.status.busy = false)
    (ha : s.agenda = .host (.write (regWordAddr s.param i j) w 0b1111) :: rest) :
    ∃ t, step s = .next t ∧ t.agenda = rest ∧ t.reg i = (s.reg i).set j ⟨w, true⟩ ∧ OnlyRegisterChanges i s t := by
  have hwrite := State.hostWrite_regWord_idle (i := i) (s := { s with agenda := rest }) hp hj hb w
  exact ⟨_, (step_host ha).trans (congrArg _ hwrite), rfl, State.reg_setWord_self { s with agenda := rest } i j w,
    fun k hk => State.reg_setWord_of_ne { s with agenda := rest } hk.symm j w, rfl, rfl, rfl⟩

theorem run_succ {t : State} (h : step s = .next t) (k : Nat) :
    Sys2Proof.core.run (k + 1) s = Sys2Proof.core.run k t := by
  have hstep : Sys2Proof.core.step s = .next t := h
  simp only [Host.Core.run, hstep]

/-- Words written one after another behind those of `done`; `old` are the words still to be overwritten. -/
theorem run_wordWrites {i : RegIx} {rest : List Move} (ws : List Word) {done old : Reg} (hp : s.param.wf = true)
    (hb : s.status.busy = false) (hreg : s.reg i = done ++ old) (hold : old.length = ws.length)
    (hlen : (done ++ old).length = s.param.opw32)
    (ha : s.agenda = (wordWrites s.param i done.length ws).map Move.host ++ rest) :
    ∃ t, Sys2Proof.core.run ws.length s = .next t ∧ t.agenda = rest ∧
      t.reg i = done ++ ws.map (fun w => ⟨w, true⟩) ∧ OnlyRegisterChanges i s t := by
  induction ws generalizing s done old with
  | nil =>
    obtain rfl := List.length_eq_zero_iff.mp hold
    exact ⟨s, rfl, ha, hreg, .refl i s⟩
  | cons w ws ih =>
    obtain ⟨x, old, rfl⟩ := List.exists_cons_of_length_eq_add_one hold
    have hj : done.length < s.param.opw32 := by rw [← hlen]; simp
    rw [wordWrites_cons] at ha
    obtain ⟨u, hstep, hua, hureg, hu⟩ := step_setWord hp hj hb ha
    have hureg' : u.reg i = (done ++ [⟨w, true⟩]) ++ old := by simp [hureg, hreg]
    obtain ⟨t, hrun, hta, htreg, ht⟩ := ih (s := u) (done := done ++ [⟨w, true⟩]) (old := old)
      (by rw [hu.param]; exact hp) (by rw [hu.status]; exact hb) hureg' (by simpa using hold)
      (by rw [hu.param, ← hlen]; simp) (by rw [hua, hu.param]; simp)
    exact ⟨t, (run_succ hstep _).trans hrun, hta, by simp [htreg], hu.trans ht⟩

/-- `setr` leaves the register as the engine would write the value (R70, R87, R92). -/
theorem run_setrWrites {i : RegIx} {v : Int} {rest : List Move} (hp : s.param.wf = true)
    (hlen : (s.reg i).length = s.param.opw32) (hb : s.status.busy = false)
    (ha : s.agenda = (setrWrites s.param i v).map Move.host ++ rest) :
    ∃ t, Sys2Proof.core.run s.param.opw32 s = .next t ∧ t.agenda = rest ∧
      t.reg i = Reg.ofInt s.param.opw32 v ∧ OnlyRegisterChanges i s t := by
  rw [setrWrites_eq_wordWrites] at ha
  have hrun := run_wordWrites (done := []) (old := s.reg i) (encWords s.param.opw32 v) hp hb rfl
    (by simpa using hlen) hlen ha
  rwa [length_encWords] at hrun

end Sys2Proof.Machine

namespace Sys2Proof.Proofs

open Sys2Proof.Machine

/-- Settles O50: a byte is a lane of a word, and a word is a slice of the pattern. -/
theorem bytesOfARegisterAreLittleEndian : Obligations.BytesOfARegisterAreLittleEndian := by
  unfold Obligations.BytesOfARegisterAreLittleEndian
  intro s hp hl
  refine ⟨s.peekByte_eq, fun i k hw hk => ?_⟩
  rw [Params.opw_div_eight] at hk ⊢
  exact State.peekByte_register hp (hl i) hw hk

/-- Settles O52: `setr` is the engine's own write of the value, which the range makes exact; one write sets one word. -/
theorem writingEveryWordSetsTheValue : Obligations.WritingEveryWordSetsTheValue := by
  unfold Obligations.WritingEveryWordSetsTheValue
  refine ⟨fun s i v rest hp hl hb hlo hhi ha => ?_, fun s i w j hp hb hj => ?_⟩
  · obtain ⟨⟨hopw, -⟩, -⟩ := s.param.wf_iff.mp hp
    obtain ⟨t, hrun, hta, hreg, ht⟩ := run_setrWrites hp (hl i) hb ha
    refine ⟨t, hrun, hta, ?_, ?_, ht.others, ht.status, ht.cmd⟩
    · rw [hreg, Reg.val_ofInt (by omega) hlo hhi]
    · rw [hreg, Reg.allWritten_ofInt]
  · obtain ⟨⟨hopw, -⟩, -⟩ := s.param.wf_iff.mp hp
    rw [State.hostWrite_regWord_idle hp (by omega) hb, State.respond_reg, State.reg_setWord_self,
      List.getElem?_set_ne (by omega)]

end Sys2Proof.Proofs
end

section
/-! The values a witness answer can carry (R69): O11. -/

namespace Sys2Proof.Machine

/-- Every value of OPW bits is that of some wires of `w_data`. -/
theorem exists_wData_of_range {opw : Nat} (h : 0 < opw) {v : Int} (hlo : -(2 ^ (opw - 1) : Int) ≤ v)
    (hhi : v < 2 ^ (opw - 1)) : ∃ wData : Nat, wData < 2 ^ opw ∧ (BitVec.ofNat opw wData).toInt = v := by
  refine ⟨(BitVec.ofInt opw v).toNat, BitVec.isLt _, ?_⟩
  rw [BitVec.ofNat_toNat, BitVec.setWidth_eq, BitVec.toInt_ofInt_eq_self h hlo hhi]

end Sys2Proof.Machine

namespace Sys2Proof.Proofs

open Sys2Proof.Machine

/-- Settles O11: an answer's value is the two's-complement reading of its wires. -/
theorem witnessAnswerReachesOnlyTheCommandInFlight : Obligations.WitnessAnswerReachesOnlyTheCommandInFlight := by
  unfold Obligations.WitnessAnswerReachesOnlyTheCommandInFlight
  intro s hp
  obtain ⟨⟨hopw, -⟩, -⟩ := s.param.wf_iff.mp hp
  have hpos : 0 < s.param.opw := Nat.mul_pos (by omega) (by omega)
  refine ⟨fun wErr wData hb => if_pos hb, fun wErr wData hb => if_neg (by simp [hb]), fun v =>
    ⟨fun ⟨hlo, hhi⟩ => exists_wData_of_range hpos hlo hhi, ?_⟩⟩
  rintro ⟨wData, -, rfl⟩
  exact witnessAnswer_range (wErr := false) rfl

end Sys2Proof.Proofs
end

section
/-! The command word by its six fields (R80): the decoder and the encoder undo each other, and the mask tests of the
opcode table are tests of the fields (R83). O1 to O4. -/

namespace Sys2Proof

/-! ### A word is its fields -/

/-- A bit that lies in a field is read off the field. -/
theorem getLsbD_eq_of_field_eq {w v : Word} {start len k : Nat} (h : w.extractLsb' start len = v.extractLsb' start len)
    (hlo : start ≤ k) (hhi : k < start + len) : w.getLsbD k = v.getLsbD k := by
  have hbit := congrArg (·.getLsbD (k - start)) h
  simpa [BitVec.getLsbD_extractLsb', show k - start < len by omega, Nat.add_sub_cancel' hlo] using hbit

/-- Two words with the same fields are the same word: the fields of R80 cover all 32 bits. -/
theorem word_ext_fields {w v : Word} (hopc : fieldOpc w = fieldOpc v) (hrd : fieldRd w = fieldRd v)
    (hrs1 : fieldRs1 w = fieldRs1 v) (hrs2 : fieldRs2 w = fieldRs2 v) (hrs3 : fieldRs3 w = fieldRs3 v)
    (hrsv : fieldRsv w = fieldRsv v) : w = v := by
  apply BitVec.eq_of_getLsbD_eq
  intro k hk
  obtain h | h | h | h | h | h : k < 8 ∨ (8 ≤ k ∧ k < 12) ∨ (12 ≤ k ∧ k < 16) ∨ (16 ≤ k ∧ k < 20) ∨
      (20 ≤ k ∧ k < 24) ∨ 24 ≤ k := by omega
  · exact getLsbD_eq_of_field_eq hopc (Nat.zero_le k) h
  · exact getLsbD_eq_of_field_eq hrd h.1 h.2
  · exact getLsbD_eq_of_field_eq hrs1 h.1 h.2
  · exact getLsbD_eq_of_field_eq hrs2 h.1 h.2
  · exact getLsbD_eq_of_field_eq hrs3 h.1 h.2
  · exact getLsbD_eq_of_field_eq hrsv h hk

section
variable (opc : BitVec 8) (rd rs1 rs2 rs3 : RegIx)

@[simp] theorem fieldOpc_commandWord : fieldOpc (commandWord opc rd rs1 rs2 rs3) = opc := by
  ext k hk
  interval_cases k <;> simp [fieldOpc, commandWord]

@[simp] theorem fieldRd_commandWord : fieldRd (commandWord opc rd rs1 rs2 rs3) = rd := by
  ext k hk
  interval_cases k <;> simp [fieldRd, commandWord]

@[simp] theorem fieldRs1_commandWord : fieldRs1 (commandWord opc rd rs1 rs2 rs3) = rs1 := by
  ext k hk
  interval_cases k <;> simp [fieldRs1, commandWord]

@[simp] theorem fieldRs2_commandWord : fieldRs2 (commandWord opc rd rs1 rs2 rs3) = rs2 := by
  ext k hk
  interval_cases k <;> simp [fieldRs2, commandWord]

@[simp] theorem fieldRs3_commandWord : fieldRs3 (commandWord opc rd rs1 rs2 rs3) = rs3 := by
  ext k hk
  interval_cases k <;> simp [fieldRs3, commandWord]

@[simp] theorem fieldRsv_commandWord : fieldRsv (commandWord opc rd rs1 rs2 rs3) = 0 := by
  ext k hk
  interval_cases k <;> simp [fieldRsv, commandWord]

end

/-- A word with RSV = 0 is the command word of its other fields. -/
theorem commandWord_fields {w : Word} (h : fieldRsv w = 0) :
    commandWord (fieldOpc w) (fieldRd w) (fieldRs1 w) (fieldRs2 w) (fieldRs3 w) = w := by
  apply word_ext_fields <;> simp [h]

/-! ### The decoder -/

/-- The decoder reads back the fields that the encoder put together (R80, R90). -/
theorem decode_encode (i : Instr) : decode (encode i) = .ok i := by
  cases i <;> simp [encode, decode]

/-- What a word must be to decode to each command, by its fields (R82, R83). -/
theorem decode_eq_ok_cases {w : Word} {i : Instr} (h : decode w = .ok i) : fieldRsv w = 0 ∧
    ((fieldOpc w = 1 ∧ i = .modpow (fieldRd w) (fieldRs1 w) (fieldRs2 w) (fieldRs3 w)) ∨
    (fieldOpc w = 2 ∧ fieldRs3 w = 0 ∧ i = .modinv (fieldRd w) (fieldRs1 w) (fieldRs2 w)) ∨
    (fieldOpc w = 3 ∧ fieldRd w = 0 ∧ fieldRs2 w = 0 ∧ fieldRs3 w = 0 ∧ i = .primetest (fieldRs1 w))) := by
  unfold decode at h
  split_ifs at h with hopc hres hopc hres hopc hres <;> cases h
  · exact ⟨hres, .inl ⟨hopc, rfl⟩⟩
  · obtain ⟨hrsv, hrs3⟩ := hres
    exact ⟨hrsv, .inr (.inl ⟨hopc, hrs3, rfl⟩)⟩
  · obtain ⟨hrsv, hrd, hrs2, hrs3⟩ := hres
    exact ⟨hrsv, .inr (.inr ⟨hopc, hrd, hrs2, hrs3, rfl⟩)⟩

/-- The decoder keeps every field of a command's word, or has checked that the encoder's 0 stands in it. -/
theorem encode_of_decode {w : Word} {i : Instr} (h : decode w = .ok i) : encode i = w := by
  obtain ⟨hrsv, hcase⟩ := decode_eq_ok_cases h
  have hw := commandWord_fields hrsv
  obtain ⟨hopc, rfl⟩ | ⟨hopc, hrs3, rfl⟩ | ⟨hopc, hrd, hrs2, hrs3, rfl⟩ := hcase
  · rw [hopc] at hw
    exact hw
  · rw [hopc, hrs3] at hw
    exact hw
  · rw [hopc, hrd, hrs2, hrs3] at hw
    exact hw

/-! ### The opcode table -/

/-- A mask of ones keeps a field, in the literal form that `simp` gives the mask. -/
theorem and_ones_byte (x : BitVec 8) : x &&& 255#8 = x := BitVec.and_allOnes

/-- The same for a field of 4 bits. -/
theorem and_ones_nibble (x : BitVec 4) : x &&& 15#4 = x := BitVec.and_allOnes

/-- A mask test of a word is a mask test of each of its fields. -/
theorem and_eq_iff_fields (w m p : Word) : w &&& m = p ↔
    fieldOpc w &&& m.extractLsb' 0 8 = p.extractLsb' 0 8 ∧ fieldRd w &&& m.extractLsb' 8 4 = p.extractLsb' 8 4 ∧
    fieldRs1 w &&& m.extractLsb' 12 4 = p.extractLsb' 12 4 ∧ fieldRs2 w &&& m.extractLsb' 16 4 = p.extractLsb' 16 4 ∧
    fieldRs3 w &&& m.extractLsb' 20 4 = p.extractLsb' 20 4 ∧
    fieldRsv w &&& m.extractLsb' 24 8 = p.extractLsb' 24 8 := by
  simp only [fieldOpc, fieldRd, fieldRs1, fieldRs2, fieldRs3, fieldRsv, ← BitVec.extractLsb'_and]
  constructor
  · rintro rfl
    exact ⟨rfl, rfl, rfl, rfl, rfl, rfl⟩
  · rintro ⟨hopc, hrd, hrs1, hrs2, hrs3, hrsv⟩
    exact word_ext_fields hopc hrd hrs1 hrs2 hrs3 hrsv

/-- The words of some row of the table, by their fields (R83). -/
theorem exists_row_iff_fields (w : Word) : (∃ r ∈ opcodeTable, w &&& r.mask = r.pattern) ↔
    (fieldOpc w = 1 ∧ fieldRsv w = 0) ∨
    (fieldOpc w = 2 ∧ fieldRs3 w = 0 ∧ fieldRsv w = 0) ∨
    (fieldOpc w = 3 ∧ fieldRd w = 0 ∧ fieldRs2 w = 0 ∧ fieldRs3 w = 0 ∧ fieldRsv w = 0) := by
  simp [opcodeTable, and_eq_iff_fields, and_ones_byte, and_ones_nibble]

/-- The rows of the table differ in OPC, so that a word matches at most one. -/
theorem opcodeRow_unique {w : Word} {r r' : OpcodeRow} (hr : r ∈ opcodeTable) (hr' : r' ∈ opcodeTable)
    (h : w &&& r.mask = r.pattern) (h' : w &&& r'.mask = r'.pattern) : r = r' := by
  have hmask : ∀ q ∈ opcodeTable, q.mask.extractLsb' 0 8 = 255#8 := by decide
  have hopc : ∀ q ∈ opcodeTable, w &&& q.mask = q.pattern → fieldOpc w = q.pattern.extractLsb' 0 8 := by
    intro q hq hmatch
    rw [← and_ones_byte (fieldOpc w), ← hmask q hq]
    exact ((and_eq_iff_fields w q.mask q.pattern).mp hmatch).1
  have hinj : ∀ q ∈ opcodeTable, ∀ q' ∈ opcodeTable,
      q.pattern.extractLsb' 0 8 = q'.pattern.extractLsb' 0 8 → q = q' := by decide
  exact hinj r hr r' hr' ((hopc r hr h).symm.trans (hopc r' hr' h'))

theorem tableRow_statement (i : Instr) : Laws.TableRow.Statement i := by
  cases i with
  | modpow rd rs1 rs2 rs3 => exact Laws.TableRow.modpow rd rs1 rs2 rs3
  | modinv rd rs1 rs2 => exact Laws.TableRow.modinv rd rs1 rs2
  | primetest rs1 => exact Laws.TableRow.primetest rs1

/-- A word is a command exactly when it matches a row (R83). -/
theorem exists_decode_iff_exists_row (w : Word) :
    (∃ i, decode w = .ok i) ↔ ∃ r ∈ opcodeTable, w &&& r.mask = r.pattern := by
  constructor
  · rintro ⟨i, h⟩
    obtain ⟨hmem, hmatch⟩ := tableRow_statement i
    exact ⟨i.row, hmem, encode_of_decode h ▸ hmatch⟩
  · rw [exists_row_iff_fields]
    rintro (⟨hopc, hrsv⟩ | ⟨hopc, hrs3, hrsv⟩ | ⟨hopc, hrd, hrs2, hrs3, hrsv⟩)
    · exact ⟨.modpow (fieldRd w) (fieldRs1 w) (fieldRs2 w) (fieldRs3 w), by simp [decode, hopc, hrsv]⟩
    · exact ⟨.modinv (fieldRd w) (fieldRs1 w) (fieldRs2 w), by simp [decode, hopc, hrs3, hrsv]⟩
    · exact ⟨.primetest (fieldRs1 w), by simp [decode, hopc, hrd, hrs2, hrs3, hrsv]⟩

end Sys2Proof

namespace Sys2Proof.Proofs

/-- Settles O2: the fields of a command word are what it was made of, and the encoder leaves the others 0. -/
theorem decodeEncodeRoundTrip : Obligations.DecodeEncodeRoundTrip := by
  unfold Obligations.DecodeEncodeRoundTrip
  exact fun i _ => decode_encode i

/-- Settles O3: a word is made of its fields, and the decoder keeps each of them or checks that it is fixed. -/
theorem decodedWordIsItsEncoding : Obligations.DecodedWordIsItsEncoding := by
  unfold Obligations.DecodedWordIsItsEncoding
  exact fun _ _ => encode_of_decode

/-- Settles O4: a word that decodes matches its command's row, and the rows exclude each other. -/
theorem definedCommandIffOneTableRow : Obligations.DefinedCommandIffOneTableRow := by
  unfold Obligations.DefinedCommandIffOneTableRow
  intro w
  rw [exists_decode_iff_exists_row]
  constructor
  · rintro ⟨r, hr, h⟩
    exact ⟨r, ⟨hr, h⟩, fun r' ⟨hr', h'⟩ => opcodeRow_unique hr' hr h' h⟩
  · rintro ⟨r, ⟨hr, h⟩, -⟩
    exact ⟨r, hr, h⟩

/-- Settles O1: each word is decoded by evaluation. -/
theorem writtenOutWordsDecode : Obligations.WrittenOutWordsDecode := by
  unfold Obligations.WrittenOutWordsDecode
  decide

end Sys2Proof.Proofs
end

section
/-! The engine's step on a word that is no command (R83, R173), on a command, and the issue of a word (R85): O6, O7 and
O48. -/

namespace Sys2Proof

/-! ### The decode errors -/

/-- The OPC test as a mask test of the word (R82). -/
theorem opcDefined_iff (w : Word) : w &&& 0xFF = 1 ∨ w &&& 0xFF = 2 ∨ w &&& 0xFF = 3 ↔
    fieldOpc w = 1 ∨ fieldOpc w = 2 ∨ fieldOpc w = 3 := by
  simp [and_eq_iff_fields, and_ones_byte]

/-- A word with a defined OPC matches no row exactly when RSV or a must-be-0 field of its command is not 0 (R83). -/
theorem reservedField_ne_zero_iff {w : Word} (hopc : fieldOpc w = 1 ∨ fieldOpc w = 2 ∨ fieldOpc w = 3) :
    (fieldRsv w ≠ 0 ∨ (fieldOpc w = 2 ∧ fieldRs3 w ≠ 0) ∨
      (fieldOpc w = 3 ∧ (fieldRd w ≠ 0 ∨ fieldRs2 w ≠ 0 ∨ fieldRs3 w ≠ 0))) ↔
    ¬ ∃ r ∈ opcodeTable, w &&& r.mask = r.pattern := by
  rw [exists_row_iff_fields]
  rcases hopc with h | h | h
  · simp [h]
  · grind
  · grind

theorem decode_eq_illegalOpcode_iff (w : Word) : decode w = .error .illegalOpcode ↔
    ¬ (fieldOpc w = 1 ∨ fieldOpc w = 2 ∨ fieldOpc w = 3) := by
  unfold decode
  split_ifs <;> simp_all

/-- The OPC check comes first, so that a word with a defined OPC which is no command fails the check of its reserved
fields (R83, R174). -/
theorem decode_eq_reservedField {w : Word} (hopc : fieldOpc w = 1 ∨ fieldOpc w = 2 ∨ fieldOpc w = 3)
    (hrow : ¬ ∃ r ∈ opcodeTable, w &&& r.mask = r.pattern) : decode w = .error .reservedField := by
  rcases hd : decode w with (_ | _) | i
  · exact absurd hopc ((decode_eq_illegalOpcode_iff w).mp hd)
  · rfl
  · exact absurd ((exists_decode_iff_exists_row w).mp ⟨i, hd⟩) hrow

end Sys2Proof

namespace Sys2Proof.Machine

variable {s : State}

/-! ### Error completions of the engine's step -/

theorem completed_raise (s : State) (e : ErrCode) (b : Word) : Completed .none e 0 b (s.raise e b) := by
  constructor <;> rfl

theorem completionFrame_raise (s : State) (e : ErrCode) (b : Word) : CompletionFrame none s (s.raise e b) := by
  constructor <;> intros <;> rfl

theorem State.engineStep_illegalOpcode (hb : s.status.busy = true) (hd : decode s.cmd = .error .illegalOpcode) :
    s.engineStep = .next (s.raise .illegalOpcode 0) := by
  simp [State.engineStep, hb, hd]

theorem State.engineStep_reservedField (hb : s.status.busy = true) (hd : decode s.cmd = .error .reservedField) :
    s.engineStep = .next (s.raise .reservedField 0) := by
  simp [State.engineStep, hb, hd]

end Sys2Proof.Machine

namespace Sys2Proof.Proofs

open Sys2Proof.Machine

/-- Settles O6: the mask terms are tests of fields, and a word that is no command fails the OPC check or the check of its
reserved fields, in this order. -/
theorem reservedFieldsCompleteWithError : Obligations.ReservedFieldsCompleteWithError := by
  unfold Obligations.ReservedFieldsCompleteWithError
  intro s hb
  refine ⟨fun hopc => ⟨?_, fun hrow => ?_⟩, exists_decode_iff_exists_row s.cmd, fun hopc => ?_⟩
  · rw [← reservedField_ne_zero_iff ((opcDefined_iff s.cmd).mp hopc)]
    simp [and_eq_iff_fields, and_ones_byte, and_ones_nibble]
  · have hd := decode_eq_reservedField ((opcDefined_iff s.cmd).mp hopc) hrow
    exact ⟨_, State.engineStep_reservedField hb hd, completed_raise s _ 0, completionFrame_raise s _ 0⟩
  · have hd : decode s.cmd = .error .illegalOpcode := by
      rw [decode_eq_illegalOpcode_iff, ← opcDefined_iff]
      simpa using hopc
    exact ⟨_, State.engineStep_illegalOpcode hb hd, completed_raise s _ 0, completionFrame_raise s _ 0⟩

/-- Settles O7: a step makes the engine's move, planned or not, and that runs the command. -/
theorem stepRunsTheCommandInFlight : Obligations.StepRunsTheCommandInFlight := by
  unfold Obligations.StepRunsTheCommandInFlight
  intro s i rest hb hd _
  exact ⟨fun h => (step_nil h).trans (State.engineStep_command hb hd),
    fun h => (step_engine h).trans (State.engineStep_command hb hd)⟩

/-- Settles O48: the port write of CMD in an idle engine is the issue of the word. -/
theorem issueAcceptsAnyWord : Obligations.IssueAcceptsAnyWord := by
  unfold Obligations.IssueAcceptsAnyWord
  intro s w hb
  have hwrite : s.hostWrite 0x010 w 0b1111 = (s.issue w).respond (.write false) := by
    rw [State.hostWrite_of_target (target_cmd _), State.portWrite_cmd_idle hb]
  exact congrArg Host.Outcome.next hwrite

end Sys2Proof.Proofs
end

section
/-! MODPOW: `trem` under products and powers, each part of the k-ary algorithm and of square-and-multiply by what it
leaves of a power of the base, and the statements O22 to O26 from the closed form (R9, R100 to R106). -/

namespace Sys2Proof.Machine

variable {a a' b b' m : Int}

/-! ### `trem` under products and powers (R9) -/

@[simp] theorem trem_trem (a m : Int) : trem (trem a m) m = trem a m := by
  simp only [trem_eq, Int.tmod_tmod]

@[simp] theorem trem_one (a : Int) : trem a 1 = 0 := by
  rw [trem_eq, Int.tmod_one]

theorem trem_neg (a m : Int) : trem (-a) m = -trem a m := by
  simp only [trem_eq, Int.neg_tmod]

/-- The remainder is congruent to the dividend. -/
theorem dvd_trem_sub_self (a m : Int) : m ∣ trem a m - a := by
  rw [trem_eq]
  exact Int.dvd_tmod_sub_self

theorem trem_mul_congr (ha : trem a m = trem a' m) (hb : trem b m = trem b' m) :
    trem (a * b) m = trem (a' * b') m := by
  simp only [trem_eq] at *
  rw [Int.mul_tmod, ha, hb, ← Int.mul_tmod]

theorem trem_pow_congr (ha : trem a m = trem a' m) (n : Nat) : trem (a ^ n) m = trem (a' ^ n) m := by
  induction n with
  | zero => simp only [pow_zero]
  | succ n ih => simpa only [pow_succ] using trem_mul_congr ih ha

/-- The remainder's size is at most `m - 1` (R9). -/
theorem abs_trem_le (a : Int) (hm : 1 ≤ m) : |trem a m| ≤ m - 1 := by
  have hlt := trem_natAbs_lt a (b := m) (by omega)
  rw [Int.abs_eq_natAbs]
  omega

/-! ### The parts of the k-ary algorithm (R101 to R103) -/

/-- `n >= 1` squarings raise to the power `2^n` (R103). -/
theorem squareTimes_succ_eq (m : Int) (n : Nat) (r : Int) :
    squareTimes m (n + 1) r = trem (r ^ 2 ^ (n + 1)) m := by
  induction n generalizing r with
  | zero => rw [squareTimes, squareTimes, zero_add, pow_one, sq]
  | succ n ih =>
    calc squareTimes m (n + 2) r = squareTimes m (n + 1) (trem (r * r) m) := rfl
      _ = trem ((trem (r * r) m) ^ 2 ^ (n + 1)) m := ih _
      _ = trem ((r * r) ^ 2 ^ (n + 1)) m := trem_pow_congr (trem_trem _ _) _
      _ = trem (r ^ 2 ^ (n + 2)) m := by rw [← sq, ← pow_mul, ← pow_succ']

theorem squareTimes_eq {n : Nat} (hn : 1 ≤ n) (m r : Int) : squareTimes m n r = trem (r ^ 2 ^ n) m := by
  obtain ⟨n, rfl⟩ := Nat.exists_eq_add_of_le' hn
  exact squareTimes_succ_eq m n r

/-- Entry `i` of the table from `t` on is `t * b^i` up to a multiple of `m`; entry 0 itself is not reduced (R101). -/
theorem trem_powTable_getD (b m : Int) {n i : Nat} (hi : i < n) (t : Int) :
    trem ((powTable b m n t).getD i 0) m = trem (t * b ^ i) m := by
  induction n generalizing i t with
  | zero => omega
  | succ n ih =>
    cases i with
    | zero => simp [powTable]
    | succ i =>
      calc trem ((powTable b m (n + 1) t).getD (i + 1) 0) m
          = trem ((powTable b m n (trem (t * b) m)).getD i 0) m := by rw [powTable, List.getD_cons_succ]
        _ = trem (trem (t * b) m * b ^ i) m := ih (by omega) _
        _ = trem (t * b * b ^ i) m := trem_mul_congr (trem_trem _ _) rfl
        _ = trem (t * b ^ (i + 1)) m := by rw [mul_assoc, ← pow_succ']

@[simp] theorem digits_zero (K : Int) (n : Nat) : digits K n 0 = [] := by
  cases n <;> rfl

/-- The digits of a natural number are its last one and those of the quotient (R102). -/
theorem digits_succ_of_pos (K n : Nat) {x : Nat} (hx : 0 < x) :
    digits K (n + 1) x = ((x % K : Nat) : Int) :: digits K n ((x / K : Nat) : Int) := by
  have hne : (x : Int) ≠ 0 := by omega
  rw [digits, if_neg hne, trem_of_nonneg (by omega), tdiv_of_nonneg (by omega), Int.natCast_emod, Int.natCast_ediv]

/-- A main loop that takes the digits of `x` in base `K`, most significant first, and whose step for the digit `d` turns
`b^q`, up to a multiple of `m`, into the remainder of `b^(K * q + d)`, ends with the remainder of `b^x`. -/
theorem foldr_digits_eq {K : Nat} (hK : 1 < K) {step : Int → Int → Int} {r₀ : Int} (h₀ : trem r₀ m = trem 1 m)
    (hstep : ∀ (q d : Nat) (r : Int), d < K → trem r m = trem (b ^ q) m → step d r = trem (b ^ (K * q + d)) m)
    {n x : Nat} (hx : 0 < x) (hxn : x ≤ n) : (digits K n x).foldr step r₀ = trem (b ^ x) m := by
  induction n generalizing x with
  | zero => omega
  | succ n ih =>
    have hlt : x / K < x := Nat.div_lt_self hx hK
    have hrest : trem ((digits K n ((x / K : Nat) : Int)).foldr step r₀) m = trem (b ^ (x / K)) m := by
      rcases Nat.eq_zero_or_pos (x / K) with h0 | hpos
      · simpa [h0] using h₀
      · rw [ih hpos (by omega), trem_trem]
    rw [digits_succ_of_pos K n hx, List.foldr_cons, hstep _ _ _ (Nat.mod_lt x (by omega)) hrest, Nat.div_add_mod]

/-- One digit of the main loop multiplies the exponent by `2^K_WIN` and adds the digit (R103). -/
theorem digitStep_eq {k : Nat} (hk : 1 ≤ k) {q d : Nat} {r : Int} (hd : d < 2 ^ k) (hr : trem r m = trem (b ^ q) m) :
    digitStep k m (powTable b m (2 ^ k) 1) d r = trem (b ^ (2 ^ k * q + d)) m := by
  have hsquares : squareTimes m k r = trem (b ^ (2 ^ k * q)) m := by
    rw [squareTimes_eq hk, trem_pow_congr hr, ← pow_mul, mul_comm]
  have hentry := trem_powTable_getD b m hd 1
  rw [one_mul] at hentry
  unfold digitStep
  split
  · rw [Int.toNat_natCast, pow_add, hsquares]
    exact trem_mul_congr (trem_trem _ _) hentry
  · have h0 : d = 0 := by omega
    rw [hsquares, h0, add_zero]

/-! ### The closed form (R104) -/

theorem modPow_eq {k : Nat} (hk : 1 ≤ k) (b m : Int) {e : Int} (he : 0 ≤ e) :
    modPow k b e m = trem (b ^ e.toNat) m := by
  obtain ⟨x, rfl⟩ := Int.eq_ofNat_of_zero_le he
  rw [Int.toNat_natCast]
  unfold modPow
  split
  · have h0 : x = 0 := by omega
    rw [h0, pow_zero]
  · exact foldr_digits_eq (Nat.one_lt_two_pow (by omega)) rfl (fun _ _ _ => digitStep_eq hk) (by omega) (by simp)

theorem squareMultiply_eq (b m : Int) {e : Int} (he : 0 ≤ e) : squareMultiply b e m = trem (b ^ e.toNat) m := by
  obtain ⟨x, rfl⟩ := Int.eq_ofNat_of_zero_le he
  rw [Int.toNat_natCast]
  unfold squareMultiply
  rcases Nat.eq_zero_or_pos x with rfl | hx
  · simp
  · refine foldr_digits_eq (K := 2) (by omega) (trem_trem 1 m) (fun q d r hd hr => ?_) hx (by simp)
    have hsquare : trem (r * r) m = trem (b ^ (2 * q)) m := by
      rw [two_mul, pow_add]
      exact trem_mul_congr hr hr
    obtain rfl | rfl : d = 0 ∨ d = 1 := by omega
    · simpa using hsquare
    · simpa [pow_succ] using trem_mul_congr ((trem_trem _ _).trans hsquare) (rfl : trem b m = trem b m)

/-- MODPOW's size (R106). -/
theorem abs_modPow_le {k : Nat} (hk : 1 ≤ k) (b : Int) {e : Int} (he : 0 ≤ e) (hm : 1 ≤ m) :
    |modPow k b e m| ≤ m - 1 := by
  rw [modPow_eq hk b m he]
  exact abs_trem_le _ hm

/-- A register that holds a modulus `m` holds every value of size at most `m - 1` (R21, R106). -/
theorem Reg.val_ofInt_of_abs_lt {r : Reg} {v : Int} (hr : 0 < r.length) (hv : |v| < r.val) :
    (Reg.ofInt r.length v).val = v := by
  obtain ⟨-, hhi⟩ := r.val_range (List.ne_nil_of_length_pos hr)
  obtain ⟨h1, h2⟩ := abs_lt.mp hv
  exact Reg.val_ofInt hr (by omega) (by omega)

/-! ### The signs (R105) -/

theorem pow_eq_abs_pow {n : Nat} (h : 0 ≤ b ∨ n % 2 = 0) : b ^ n = |b| ^ n := by
  rcases h with hb | hn
  · rw [abs_of_nonneg hb]
  · exact ((Nat.even_iff.mpr hn).pow_abs b).symm

theorem pow_eq_neg_abs_pow {n : Nat} (hb : b < 0) (hn : n % 2 = 1) : b ^ n = -|b| ^ n := by
  rw [abs_of_neg hb, (Nat.odd_iff.mpr hn).neg_pow, neg_neg]

/-! ### The command (R100) -/

variable {s : State}

theorem State.finishModpow_badModulus (s : State) (rd : RegIx) (b e : Int) (hm : m ≤ 0) :
    s.finishModpow rd b e m = s.raise .badModulus 0 := if_pos hm

theorem State.finishModpow_badExponent (s : State) (rd : RegIx) (b : Int) {e : Int} (hm : 1 ≤ m) (he : e < 0) :
    s.finishModpow rd b e m = s.raise .badExponent 0 :=
  (if_neg (by omega)).trans (if_pos he)

theorem State.finishModpow_value (s : State) (rd : RegIx) (b : Int) {e : Int} (hm : 1 ≤ m) (he : 0 ≤ e) :
    s.finishModpow rd b e m = (s.writeResult rd (modPow s.param.kWin b e m)).complete .value .none 0 0 :=
  (if_neg (by omega)).trans (if_neg (by omega))

theorem completed_complete (s : State) (r : ResultCode) (e : ErrCode) (a b : Word) :
    Completed r e a b (s.complete r e a b) := by
  constructor <;> rfl

end Sys2Proof.Machine

namespace Sys2Proof.Proofs

open Sys2Proof.Machine

/-- Settles O22: both main loops take the exponent's digits, and each digit's step is one of `foldr_digits_eq`. -/
theorem modPowClosedForm : Obligations.ModPowClosedForm := by
  unfold Obligations.ModPowClosedForm
  intro k b e m hk he _
  exact ⟨modPow_eq hk b m he, squareMultiply_eq b m he⟩

/-- Settles O23: by the closed form and the sign of `b^e`, which the remainder keeps. -/
theorem modPowSignAndRange : Obligations.ModPowSignAndRange := by
  unfold Obligations.ModPowSignAndRange
  refine ⟨fun k b e m hk he hm => ?_, by decide, by decide⟩
  have hrem : trem (|b| ^ e.toNat) m = |b| ^ e.toNat % m := trem_of_nonneg (by positivity) m
  have hlo : 0 ≤ |b| ^ e.toNat % m := Int.emod_nonneg _ (by omega)
  have hhi : |b| ^ e.toNat % m < m := Int.emod_lt_of_pos _ (by omega)
  rw [modPow_eq hk b m he]
  refine ⟨?_, fun _ hpos => ?_, fun _ hb hodd => ?_, dvd_trem_sub_self _ m⟩
  · rintro rfl
    exact trem_one _
  · rw [pow_eq_abs_pow (hpos.imp_right fun _ => by omega), hrem]
    exact ⟨rfl, hlo, by omega⟩
  · rw [pow_eq_neg_abs_pow hb (by omega), trem_neg, hrem]
    exact ⟨rfl, by omega, by omega⟩

/-- Settles O24: the result is smaller than the modulus, and a register that holds the modulus holds it. -/
theorem modPowResultFits : Obligations.ModPowResultFits := by
  unfold Obligations.ModPowResultFits
  rintro k n b e r hk hn he rfl hm
  have habs := abs_modPow_le hk b he hm
  obtain ⟨-, hhi⟩ := r.val_range (List.ne_nil_of_length_pos hn)
  exact ⟨habs, by omega, Reg.val_ofInt_of_abs_lt hn (by omega)⟩

/-- Settles O25: the command writes `modPow`, which fits the destination as it fits the register of the modulus. -/
theorem modpowCompletesWithTheResidue : Obligations.ModpowCompletesWithTheResidue := by
  unfold Obligations.ModpowCompletesWithTheResidue
  intro rd rs1 rs2 rs3 s hp hlen h1 h2 h3 hm he
  obtain ⟨⟨hwords, -⟩, hk, -⟩ := (Params.wf_iff s.param).mp hp
  have hexec := exec_modpow_of_written (rd := rd) h1 h2 h3
  rw [State.finishModpow_value s rd _ hm he] at hexec
  have habs := abs_modPow_le hk (s.reg rs1).val he hm
  have hval := Reg.val_ofInt_of_abs_lt (by rw [hlen]; omega) (Int.lt_of_le_sub_one habs)
  rw [hlen, modPow_eq hk _ _ he] at hval
  refine ⟨_, hexec, completed_complete _ _ _ _ _, ?_, ?_, (exec_completionFrame hexec).1⟩
  · rw [State.complete_reg, State.reg_writeResult_self, modPow_eq hk _ _ he, hval]
  · rw [State.complete_reg, State.reg_writeResult_self, Reg.allWritten_ofInt]

/-- Settles O26: the domain checks in their order, each of which raises its error and writes no register. -/
theorem modpowDomainErrors : Obligations.ModpowDomainErrors := by
  unfold Obligations.ModpowDomainErrors
  intro rd rs1 rs2 rs3 s h1 h2 h3
  rw [exec_modpow_of_written h1 h2 h3]
  refine ⟨fun hm => ?_, fun hm he => ?_⟩
  · exact ⟨_, congrArg _ (State.finishModpow_badModulus s rd _ _ hm),
      completed_raise s _ 0, completionFrame_raise s _ 0⟩
  · exact ⟨_, congrArg _ (State.finishModpow_badExponent s rd _ hm he),
      completed_raise s _ 0, completionFrame_raise s _ 0⟩

end Sys2Proof.Proofs
end

section
/-! MODINV: the Euclidean loop by its invariant, a halving measure for its count, what `ModInv` returns, and the
statements O27 to O31 (R120 to R126). -/

namespace Sys2Proof.Machine

variable {a n : Int} {t : Euclid}

/-! ### One iteration and the loop (R122) -/

/-- The sign of the iteration parity, `(-1)^iters`. -/
def Euclid.sign (t : Euclid) : Int := if t.odd then -1 else 1

@[simp] theorem euclidStep_sign (t : Euclid) : (euclidStep t).sign = -t.sign := by
  cases h : t.odd <;> simp [Euclid.sign, euclidStep, h]

/-- On a dividend that is not negative an iteration divides with Euclid's quotient and remainder. -/
theorem euclidStep_of_nonneg (h : 0 ≤ t.u3) : euclidStep t =
    ⟨t.v1, t.v3, t.u1 + t.u3 / t.v3 * t.v1, t.u3 % t.v3, !t.odd, t.iters + 1⟩ := by
  rw [euclidStep, tdiv_of_nonneg h, trem_of_nonneg h]

theorem euclidLoop_of_v3_eq_zero (h : t.v3 = 0) (k : Nat) : euclidLoop k t = t := by
  cases k with
  | zero => rfl
  | succ k => exact if_pos h

theorem euclidLoop_succ (h : t.v3 ≠ 0) (k : Nat) : euclidLoop (k + 1) t = euclidLoop k (euclidStep t) := if_neg h

/-- What every iteration keeps, the loop keeps. -/
theorem euclidLoop_keeps {P : Euclid → Prop} (hstep : ∀ t, t.v3 ≠ 0 → P t → P (euclidStep t)) (k : Nat) (h : P t) :
    P (euclidLoop k t) := by
  induction k generalizing t with
  | zero => exact h
  | succ k ih =>
    by_cases h0 : t.v3 = 0
    · rwa [euclidLoop_of_v3_eq_zero h0]
    · rw [euclidLoop_succ h0]
      exact ih (hstep t h0 h)

/-- `v3` falls at every iteration, so that a bound of at least its size does not cut the loop short (R212). -/
theorem euclidLoop_v3 {k : Nat} (h : t.v3.natAbs ≤ k) : (euclidLoop k t).v3 = 0 := by
  induction k generalizing t with
  | zero => exact Int.natAbs_eq_zero.mp (Nat.le_zero.mp h)
  | succ k ih =>
    by_cases h0 : t.v3 = 0
    · rwa [euclidLoop_of_v3_eq_zero h0]
    · have hfall : (euclidStep t).v3.natAbs < t.v3.natAbs := trem_natAbs_lt t.u3 h0
      rw [euclidLoop_succ h0]
      exact ih (by omega)

/-! ### The invariant (R124) -/

/-- What the loop keeps for `a >= 0`, `n >= 2`: the two congruences of R124, the gcd, and the identity
`u1 * v3 + v1 * u3 = n`, which bounds the coefficients by `n`. -/
structure EuclidInv (a n : Int) (t : Euclid) : Prop where
  u1_nonneg  : 0 ≤ t.u1
  u1_le      : t.u1 ≤ n
  v1_nonneg  : 0 ≤ t.v1
  v1_le      : t.v1 ≤ n
  u3_nonneg  : 0 ≤ t.u3
  v3_nonneg  : 0 ≤ t.v3
  cross      : t.u1 * t.v3 + t.v1 * t.u3 = n
  gcd_eq     : Int.gcd t.u3 t.v3 = Int.gcd a n
  u_congr    : n ∣ a * t.u1 - t.sign * t.u3
  v_congr    : n ∣ a * t.v1 + t.sign * t.v3

theorem euclidInv_seed (ha : 0 ≤ a) (hn : 2 ≤ n) : EuclidInv a n (euclidSeed a n) where
  u1_nonneg := zero_le_one
  u1_le     := (by omega : 1 ≤ n)
  v1_nonneg := le_rfl
  v1_le     := (by omega : 0 ≤ n)
  u3_nonneg := ha
  v3_nonneg := (by omega : 0 ≤ n)
  cross     := by simp [euclidSeed]
  gcd_eq    := rfl
  u_congr   := by simp [euclidSeed, Euclid.sign]
  v_congr   := by simp [euclidSeed, Euclid.sign]

theorem EuclidInv.step (h : EuclidInv a n t) (h0 : t.v3 ≠ 0) : EuclidInv a n (euclidStep t) := by
  have hsign := euclidStep_sign t
  rw [euclidStep_of_nonneg h.u3_nonneg] at hsign ⊢
  have hdiv := Int.mul_ediv_add_emod t.u3 t.v3
  have hv3 : 0 < t.v3 := lt_of_le_of_ne h.v3_nonneg h0.symm
  have hr : 0 ≤ t.u3 % t.v3 := Int.emod_nonneg _ h0
  have hw : 0 ≤ t.u1 + t.u3 / t.v3 * t.v1 :=
    add_nonneg h.u1_nonneg (mul_nonneg (Int.ediv_nonneg h.u3_nonneg h.v3_nonneg) h.v1_nonneg)
  have hcross : t.v1 * (t.u3 % t.v3) + (t.u1 + t.u3 / t.v3 * t.v1) * t.v3 = n := by
    linear_combination h.cross + t.v1 * hdiv
  have hw_le : t.u1 + t.u3 / t.v3 * t.v1 ≤ n := by
    have h1 := mul_nonneg h.v1_nonneg hr
    have h2 := le_mul_of_one_le_right hw hv3
    omega
  have hcongr : n ∣ a * (t.u1 + t.u3 / t.v3 * t.v1) - t.sign * (t.u3 % t.v3) := by
    have e : a * (t.u1 + t.u3 / t.v3 * t.v1) - t.sign * (t.u3 % t.v3) =
        a * t.u1 - t.sign * t.u3 + t.u3 / t.v3 * (a * t.v1 + t.sign * t.v3) := by
      linear_combination -t.sign * hdiv
    rw [e]
    exact dvd_add h.u_congr (h.v_congr.mul_left _)
  have hgcd : Int.gcd t.v3 (t.u3 % t.v3) = Int.gcd a n := by
    rw [Int.gcd_comm, Int.gcd_emod, h.gcd_eq]
  refine ⟨h.v1_nonneg, h.v1_le, hw, hw_le, h.v3_nonneg, hr, hcross, hgcd, ?_, ?_⟩
  · rw [hsign, neg_mul, sub_neg_eq_add]
    exact h.v_congr
  · rw [hsign, neg_mul, ← sub_eq_add_neg]
    exact hcongr

theorem EuclidInv.u3_eq_gcd (h : EuclidInv a n t) (h0 : t.v3 = 0) : t.u3 = Int.gcd a n := by
  rw [← h.gcd_eq, h0, Int.gcd_zero_right, Int.natAbs_of_nonneg h.u3_nonneg]

/-! ### What `ModInv` returns (R123, R124) -/

/-- `ModInv` selects its result from a state of the invariant in which the loop is over. -/
theorem exists_modInv_fst_eq (ha : 0 ≤ a) (hn : 2 ≤ n) :
    ∃ t, EuclidInv a n t ∧ t.v3 = 0 ∧ (modInv a n).1 = euclidResult n t :=
  ⟨euclidLoop (n.toNat + 1) (euclidSeed a n),
    euclidLoop_keeps (fun _ h0 h => h.step h0) _ (euclidInv_seed ha hn),
    euclidLoop_v3 (by simp only [euclidSeed]; omega), rfl⟩

theorem modInv_eq_none (ha : 0 ≤ a) (hn : 2 ≤ n) (hg : Int.gcd a n ≠ 1) : (modInv a n).1 = none := by
  obtain ⟨t, hinv, h0, e⟩ := exists_modInv_fst_eq ha hn
  have hu3 := hinv.u3_eq_gcd h0
  rw [e, euclidResult, if_pos (by omega)]

/-- With `u3 = 1` the selected coefficient is an inverse of `a` modulo `n`, by the parity. -/
theorem EuclidInv.exists_euclidResult (h : EuclidInv a n t) (hu3 : t.u3 = 1) :
    ∃ x, euclidResult n t = some x ∧ 0 ≤ x ∧ x ≤ n ∧ n ∣ a * x - 1 := by
  have hlo := h.u1_nonneg
  have hhi := h.u1_le
  have hu := h.u_congr
  rw [hu3, mul_one] at hu
  cases hodd : t.odd with
  | false =>
    simp only [Euclid.sign, hodd, Bool.false_eq_true, if_false] at hu
    exact ⟨t.u1, by simp [euclidResult, hu3, hodd], hlo, hhi, hu⟩
  | true =>
    simp only [Euclid.sign, hodd, if_true] at hu
    have e : a * (n - t.u1) - 1 = n * a - (a * t.u1 - -1) := by ring
    refine ⟨n - t.u1, by simp [euclidResult, hu3, hodd], by omega, by omega, ?_⟩
    rw [e]
    exact dvd_sub (dvd_mul_right n a) hu

/-- An inverse is neither bound of `[0, n]`, as `n` does not divide 1. -/
theorem inverse_ne_bounds {x : Int} (hn : 2 ≤ n) (hx : n ∣ a * x - 1) : x ≠ 0 ∧ x ≠ n := by
  have hunit : ¬ n ∣ 1 := fun h => absurd (Int.le_of_dvd one_pos h) (by omega)
  constructor <;> rintro rfl
  · exact hunit (by simpa using hx)
  · exact hunit ((dvd_sub_right (dvd_mul_left x a)).mp hx)

theorem modInv_eq_some (ha : 0 ≤ a) (hn : 2 ≤ n) (hg : Int.gcd a n = 1) :
    ∃ x, (modInv a n).1 = some x ∧ 1 ≤ x ∧ x ≤ n - 1 ∧ trem (a * x) n = 1 := by
  obtain ⟨t, hinv, h0, e⟩ := exists_modInv_fst_eq ha hn
  have hu3 := hinv.u3_eq_gcd h0
  obtain ⟨x, hres, hlo, hhi, hdvd⟩ := hinv.exists_euclidResult (by omega)
  obtain ⟨hne0, hnen⟩ := inverse_ne_bounds hn hdvd
  refine ⟨x, e.trans hres, by omega, by omega, ?_⟩
  calc trem (a * x) n = a * x % n := trem_of_nonneg (mul_nonneg ha hlo) n
    _ = 1 % n := Int.emod_eq_emod_iff_emod_sub_eq_zero.mpr (Int.emod_eq_zero_of_dvd hdvd)
    _ = 1 := Int.emod_eq_of_lt one_pos.le (by omega)

/-! ### The first iteration, and the count (R125, R126) -/

theorem euclidStep_seed (a n : Int) : euclidStep (euclidSeed a n) = ⟨0, n, 1, trem a n, true, 1⟩ := by
  simp [euclidStep, euclidSeed]

theorem modInv_eq_of_first_step (a : Int) (hn : n ≠ 0) : modInv a n =
    (euclidResult n (euclidLoop n.toNat ⟨0, n, 1, trem a n, true, 1⟩),
      (euclidLoop n.toNat ⟨0, n, 1, trem a n, true, 1⟩).iters) := by
  have h := euclidLoop_succ (t := euclidSeed a n) hn n.toNat
  rw [euclidStep_seed] at h
  rw [modInv, h]

theorem modInv_trem (a : Int) (hn : n ≠ 0) : modInv (trem a n) n = modInv a n := by
  rw [modInv_eq_of_first_step _ hn, modInv_eq_of_first_step a hn, trem_trem]

theorem modInv_of_trem_eq_zero (hn : 2 ≤ n) (h : trem a n = 0) : modInv a n = (none, 1) := by
  rw [modInv_eq_of_first_step a (by omega), euclidLoop_of_v3_eq_zero h, euclidResult, if_pos (by simp only; omega)]

/-- The tracked parity is the parity of the count (R122). -/
theorem euclidLoop_odd_iff (a n : Int) (k : Nat) :
    (euclidLoop k (euclidSeed a n)).odd = true ↔ (euclidLoop k (euclidSeed a n)).iters % 2 = 1 := by
  refine euclidLoop_keeps (P := fun t => t.odd = true ↔ t.iters % 2 = 1) (fun t _ h => ?_) k (by simp [euclidSeed])
  simp only [euclidStep, Bool.not_eq_true']
  rw [← Bool.not_eq_true, h]
  omega

/-- An iteration at least halves `u3 * v3`: the quotient is at least 1, so that `u3` is at least twice the remainder. -/
theorem two_mul_euclidStep_product_le (h0 : 0 < t.v3) (h : t.v3 < t.u3) :
    2 * ((euclidStep t).u3 * (euclidStep t).v3) ≤ t.u3 * t.v3 := by
  rw [euclidStep_of_nonneg (by omega)]
  have hq : 1 ≤ t.u3 / t.v3 := (Int.le_ediv_iff_mul_le h0).mpr (by omega)
  have hr : t.u3 % t.v3 < t.v3 := Int.emod_lt_of_pos _ h0
  have hdiv := Int.mul_ediv_add_emod t.u3 t.v3
  have htwice : 2 * (t.u3 % t.v3) ≤ t.u3 := by
    have := le_mul_of_one_le_right h0.le hq
    omega
  calc 2 * (t.v3 * (t.u3 % t.v3)) = 2 * (t.u3 % t.v3) * t.v3 := by ring
    _ ≤ t.u3 * t.v3 := mul_le_mul_of_nonneg_right htwice h0.le

/-- From `u3 * v3 < 2^m` on there are at most `m` iterations. -/
theorem euclidLoop_iters_le {m : Nat} (h0 : 0 ≤ t.v3) (h : t.v3 < t.u3) (hm : t.u3 * t.v3 < 2 ^ m) (k : Nat) :
    (euclidLoop k t).iters ≤ t.iters + m := by
  induction k generalizing t m with
  | zero => exact Nat.le_add_right _ _
  | succ k ih =>
    rcases h0.eq_or_lt with hz | hpos
    · rw [euclidLoop_of_v3_eq_zero hz.symm]
      exact Nat.le_add_right _ _
    · have hhalf := two_mul_euclidStep_product_le hpos h
      have hprod : 0 < t.u3 * t.v3 := mul_pos (hpos.trans h) hpos
      rw [euclidLoop_succ hpos.ne']
      cases m with
      | zero => rw [pow_zero] at hm; omega
      | succ m =>
        rw [pow_succ] at hm
        have hnext := ih (t := euclidStep t) (trem_nonneg (hpos.trans h).le _) (trem_lt (hpos.trans h).le hpos)
          (m := m) (by omega)
        have hiters : (euclidStep t).iters = t.iters + 1 := rfl
        omega

/-- After the first iteration there are at most two for each bit of the modulus (R125). -/
theorem modInv_iters_le {k : Nat} (ha : 0 ≤ a) (hn : 2 ≤ n) (hk : n < 2 ^ k) : (modInv a n).2 ≤ 1 + 2 * k := by
  have hpos : 0 < n := by omega
  have hlt : trem a n < n := trem_lt ha hpos
  rw [modInv_eq_of_first_step a hpos.ne']
  refine euclidLoop_iters_le (trem_nonneg ha n) hlt ?_ _
  calc n * trem a n < n * n := mul_lt_mul_of_pos_left hlt hpos
    _ ≤ 2 ^ k * 2 ^ k := mul_le_mul hk.le hk.le hpos.le (by positivity)
    _ = 2 ^ (2 * k) := by rw [two_mul, pow_add]

/-! ### The command (R120) -/

variable {s : State}

theorem State.finishModinv_badModulus (s : State) (rd : RegIx) (a : Int) (hn : n ≤ 1) :
    s.finishModinv rd a n = s.raise .badModulus 0 := if_pos hn

theorem State.finishModinv_badOperand (s : State) (rd : RegIx) (hn : 2 ≤ n) (ha : a < 0) :
    s.finishModinv rd a n = s.raise .badOperand 0 :=
  (if_neg (by omega)).trans (if_pos ha)

theorem State.finishModinv_noInv (s : State) (rd : RegIx) (hn : 2 ≤ n) (ha : 0 ≤ a) (hres : (modInv a n).1 = none) :
    s.finishModinv rd a n = s.complete .noInv .none 0 (BitVec.ofNat 32 (modInv a n).2) := by
  rcases s.finishModinv_cases rd a n with ⟨h, -⟩ | ⟨-, h, -⟩ | ⟨-, -, -, e⟩ | ⟨-, -, x, h, -⟩
  · omega
  · omega
  · exact e
  · simp [hres] at h

theorem State.finishModinv_value (s : State) (rd : RegIx) {x : Int} (hn : 2 ≤ n) (ha : 0 ≤ a)
    (hres : (modInv a n).1 = some x) : s.finishModinv rd a n =
      (s.writeResult rd x).complete .value .none 0 (BitVec.ofNat 32 (modInv a n).2) := by
  rcases s.finishModinv_cases rd a n with ⟨h, -⟩ | ⟨-, h, -⟩ | ⟨-, -, h, -⟩ | ⟨-, -, y, h, e⟩
  · omega
  · omega
  · simp [hres] at h
  · obtain rfl : x = y := Option.some.inj (hres.symm.trans h)
    exact e

/-- In its domain MODINV is no error and reports the count, with an inverse or without. -/
theorem State.finishModinv_err_info1 (s : State) (rd : RegIx) (hn : 2 ≤ n) (ha : 0 ≤ a) :
    (s.finishModinv rd a n).status.err = .none ∧
      (s.finishModinv rd a n).info1 = BitVec.ofNat 32 (modInv a n).2 := by
  cases hres : (modInv a n).1 with
  | none => rw [s.finishModinv_noInv rd hn ha hres]; exact ⟨rfl, rfl⟩
  | some x => rw [s.finishModinv_value rd hn ha hres]; exact ⟨rfl, rfl⟩

end Sys2Proof.Machine

namespace Sys2Proof.Proofs

open Sys2Proof.Machine

/-- Settles O27: the invariant at the end of the loop, and a register that holds `n` holds what is smaller. -/
theorem modInvReturnsTheInverse : Obligations.ModInvReturnsTheInverse := by
  unfold Obligations.ModInvReturnsTheInverse
  refine fun a n ha hn => ⟨fun hg => ?_, modInv_eq_none ha hn⟩
  obtain ⟨x, hres, hlo, hhi, hinv⟩ := modInv_eq_some ha hn hg
  refine ⟨x, hres, hlo, hhi, hinv, fun r hr => ?_⟩
  have hne : r ≠ [] := by
    rintro rfl
    have h0 : Reg.val [] = 0 := rfl
    omega
  obtain ⟨-, hlt⟩ := r.val_range hne
  omega

/-- Settles O28: the first iteration leaves a state that depends on `trem(a, n)` alone. -/
theorem modInvReducesItsOperand : Obligations.ModInvReducesItsOperand := by
  unfold Obligations.ModInvReducesItsOperand
  intro a n hn hna
  refine ⟨?_, euclidStep_seed a n, fun _ => ⟨?_, (modInv_trem a (by omega)).symm⟩, modInv_of_trem_eq_zero hn⟩
  · rw [tdiv_of_nonneg (by omega)]
    exact (Int.le_ediv_iff_mul_le (by omega)).mpr (by omega)
  · rw [euclidStep_seed, trem_trem]

/-- Settles O29: INFO1 is the count, whose bound is the halving of `u3 * v3`. -/
theorem modInvIterationCount : Obligations.ModInvIterationCount := by
  unfold Obligations.ModInvIterationCount
  refine ⟨fun rd rs1 rs2 s h1 h2 hn ha => ?_, euclidLoop_odd_iff, fun p a n hp ha hn hlt => ?_,
    by decide, by decide, by decide⟩
  · obtain ⟨herr, hinfo1⟩ := s.finishModinv_err_info1 rd hn ha
    exact ⟨_, exec_modinv_of_written h1 h2, herr, hinfo1.trans (BitVec.eq_of_toNat_eq (by simp))⟩
  · obtain ⟨⟨-, hwords⟩, -⟩ := (Params.wf_iff p).mp hp
    have hle := modInv_iters_le ha hn hlt
    rw [Params.opw] at hle
    omega

/-- Settles O30: the command ends as `ModInv` does, and the inverse fits the destination as it fits the register of the
modulus. -/
theorem modinvCompletesWithTheInverse : Obligations.ModinvCompletesWithTheInverse := by
  unfold Obligations.ModinvCompletesWithTheInverse
  intro rd rs1 rs2 s hp hlen h1 h2 hn ha
  have hexec := exec_modinv_of_written (rd := rd) h1 h2
  obtain ⟨hdest, hnone⟩ := exec_completionFrame hexec
  refine ⟨_, hexec, fun hg => ?_, fun hg => ?_⟩
  · obtain ⟨⟨hwords, -⟩, -⟩ := (Params.wf_iff s.param).mp hp
    obtain ⟨x, hres, hlo, hhi, hinv⟩ := modInv_eq_some ha hn hg
    have hval := Reg.val_ofInt_of_abs_lt (by rw [hlen]; omega) (abs_lt.mpr ⟨by omega, Int.lt_of_le_sub_one hhi⟩)
    rw [hlen] at hval
    rw [s.finishModinv_value rd hn ha hres] at hdest ⊢
    rw [State.complete_reg, State.reg_writeResult_self, hval]
    exact ⟨completed_complete _ _ _ _ _, hlo, hhi, hinv, Reg.allWritten_ofInt _ _, hdest⟩
  · rw [s.finishModinv_noInv rd hn ha (modInv_eq_none ha hn hg)] at hnone ⊢
    exact ⟨completed_complete _ _ _ _ _, hnone (by simp)⟩

/-- Settles O31: the domain checks in their order, each of which raises its error and writes no register. -/
theorem modinvDomainErrors : Obligations.ModinvDomainErrors := by
  unfold Obligations.ModinvDomainErrors
  intro rd rs1 rs2 s h1 h2
  rw [exec_modinv_of_written h1 h2]
  refine ⟨fun hn => ?_, fun hn ha => ?_⟩
  · exact ⟨_, congrArg _ (s.finishModinv_badModulus rd _ hn), completed_raise s _ 0, completionFrame_raise s _ 0⟩
  · exact ⟨_, congrArg _ (s.finishModinv_badOperand rd hn ha), completed_raise s _ 0, completionFrame_raise s _ 0⟩

end Sys2Proof.Proofs
end

section
/-! PRIMETEST before its rounds (R141 to R144): the small prime that trial division reports, the candidates that reach
the rounds (R150), the completion that a verdict makes, and the statements O32 to O34. -/

namespace Sys2Proof.Machine

variable {s t : State} {n : Int}

/-! ### Trial division (R143) -/

theorem firstDivisor_eq_none_iff : firstDivisor n = none ↔ ∀ p ∈ Config.smallPrimes, ¬ (p : Int) ∣ n := by
  simp only [firstDivisor, List.find?_eq_none, decide_eq_true_eq, trem_eq_zero_iff]

theorem smallPrimes_sorted : Config.smallPrimes.Pairwise (· < ·) := by decide

theorem prime_of_mem_smallPrimes {p : Nat} (h : p ∈ Config.smallPrimes) : p.Prime := by
  have hall : ∀ p ∈ Config.smallPrimes, p.Prime := by simp only [Config.smallPrimes]; norm_num
  exact hall p h

theorem mem_smallPrimes_of_prime {p : Nat} (hp : p.Prime) (hle : p ≤ 23) : p ∈ Config.smallPrimes := by
  have hall : ∀ p ≤ 23, p.Prime → p ∈ Config.smallPrimes := by decide
  exact hall p hle hp

/-- "The first dividing prime in ascending order is reported" (R143): the least one. -/
theorem firstDivisor_eq_some {p : Nat} (hp : p ∈ Config.smallPrimes) (hdvd : (p : Int) ∣ n)
    (hleast : ∀ q ∈ Config.smallPrimes, q < p → ¬ (q : Int) ∣ n) : firstDivisor n = some p := by
  obtain ⟨before, after, hsplit⟩ := List.append_of_mem hp
  have hsorted := smallPrimes_sorted
  rw [hsplit, List.pairwise_append] at hsorted
  obtain ⟨-, -, hbefore⟩ := hsorted
  rw [firstDivisor, List.find?_eq_some_iff_append]
  refine ⟨by simpa [trem_eq_zero_iff] using hdvd, before, after, hsplit, fun q hq => ?_⟩
  have hndvd := hleast q (by simp [hsplit, hq]) (hbefore q hq p (by simp))
  simpa [trem_eq_zero_iff] using hndvd

theorem mem_and_dvd_of_firstDivisor {p : Nat} (h : firstDivisor n = some p) : p ∈ Config.smallPrimes ∧ (p : Int) ∣ n := by
  have hdvd := List.find?_some h
  exact ⟨List.mem_of_find?_eq_some h, by simpa [trem_eq_zero_iff] using hdvd⟩

/-! ### The candidates that reach the rounds (R150) -/

/-- Every odd number from 4 to 28 has a small prime as a divisor. -/
theorem exists_smallPrime_dvd : ∀ m : Nat, m < 29 → 3 < m → m % 2 = 1 → ∃ p ∈ Config.smallPrimes, p ∣ m := by decide

theorem reachesRounds_iff (h0 : 0 ≤ n) : ReachesRounds n ↔
    n % 2 = 1 ∧ 29 ≤ n ∧ ∀ p : Nat, p.Prime → 3 ≤ p → p ≤ 23 → ¬ (p : Int) ∣ n := by
  rw [ReachesRounds, firstDivisor_eq_none_iff, trem_of_nonneg h0]
  constructor
  · rintro ⟨hodd, hnone, h3⟩
    refine ⟨by omega, ?_, fun p hp _ hle => hnone p (mem_smallPrimes_of_prime hp hle)⟩
    by_contra hlt
    obtain ⟨m, rfl⟩ := Int.eq_ofNat_of_zero_le h0
    obtain ⟨p, hp, hdvd⟩ := exists_smallPrime_dvd m (by omega) (by omega) (by omega)
    exact hnone p hp (Int.natCast_dvd_natCast.mpr hdvd)
  · rintro ⟨hodd, h29, hnone⟩
    refine ⟨by omega, fun p hp => ?_, by omega⟩
    have hprime := prime_of_mem_smallPrimes hp
    rcases hprime.eq_two_or_odd with rfl | hpodd
    · omega
    · have hle : ∀ p ∈ Config.smallPrimes, p ≤ 23 := by decide
      exact hnone p hprime (by have := hprime.two_le; omega) (hle p hp)

/-! ### The verdict and its report (R140) -/

/-- PrimeTest by the steps of R142 to R146: the one that decides, and what it returns. -/
theorem primeTest_cases (kWin : Nat) (lim : MrLimit) (n : Int) (c : Nat) (answers : List WitnessAnswer) :
    (2 ∣ n ∧ primeTest kWin lim n c answers = .composite .even 0 0) ∨
    (∃ p, firstDivisor n = some p ∧ primeTest kWin lim n c answers = .composite .smallDiv p 0) ∨
    primeTest kWin lim n c answers = .prime .trivial 0 0 ∨
    (ReachesRounds n ∧ primeTest kWin lim n c answers =
      rounds kWin lim n (split (n - 1)).1 (split (n - 1)).2 c 0 answers) := by
  unfold primeTest
  split
  · next heven => exact .inl ⟨(trem_eq_zero_iff n 2).mp heven, rfl⟩
  · next hodd =>
    cases hdiv : firstDivisor n with
    | some p => exact .inr (.inl ⟨p, rfl, rfl⟩)
    | none =>
      by_cases h3 : n ≤ 3
      · exact .inr (.inr (.inl (if_pos h3)))
      · exact .inr (.inr (.inr ⟨⟨hodd, hdiv, by omega⟩, if_neg h3⟩))

theorem primeTest_of_even (h : 2 ∣ n) (kWin : Nat) (lim : MrLimit) (c : Nat) (answers : List WitnessAnswer) :
    primeTest kWin lim n c answers = .composite .even 0 0 :=
  if_pos ((trem_eq_zero_iff n 2).mpr h)

theorem primeTest_of_firstDivisor (h2 : ¬ 2 ∣ n) {p : Nat} (h : firstDivisor n = some p) (kWin : Nat) (lim : MrLimit)
    (c : Nat) (answers : List WitnessAnswer) : primeTest kWin lim n c answers = .composite .smallDiv p 0 := by
  simp [primeTest, trem_eq_zero_iff, h2, h]

theorem exec_primetest_of_nonneg {rs1 : RegIx} (hw : (s.reg rs1).allWritten = true) (h0 : 0 ≤ (s.reg rs1).val) :
    exec (.primetest rs1) s = .next (s.report (s.reg rs1).val
      (primeTest s.param.kWin s.param.mrLim (s.reg rs1).val s.certainty.toNat s.witness)) := by
  rw [exec_primetest_of_written hw, State.finishPrimetest, if_neg (by omega)]

/-- A command that ends in a completion without a value is observed as that, and writes no operand register. -/
theorem completes_of_exec_eq {i : Instr} {r : ResultCode} {e : ErrCode} {a b : Word}
    (h : exec i s = .next (s.complete r e a b)) (hr : r ≠ .value) :
    ∃ t, exec i s = .next t ∧ Completed r e a b t ∧ CompletionFrame none s t :=
  ⟨_, h, completed_complete s r e a b, (exec_completionFrame h).2 hr⟩

/-- The completion of PRIMETEST is the one that the verdict reports. -/
theorem primetest_completes {rs1 : RegIx} {v : Verdict} {r : ResultCode} {e : ErrCode} {a b : Word}
    (hw : (s.reg rs1).allWritten = true) (h0 : 0 ≤ (s.reg rs1).val)
    (hv : primeTest s.param.kWin s.param.mrLim (s.reg rs1).val s.certainty.toNat s.witness = v)
    (hreport : s.report (s.reg rs1).val v = s.complete r e a b) (hr : r ≠ .value) :
    ∃ t, exec (.primetest rs1) s = .next t ∧ Completed r e a b t ∧ CompletionFrame none s t := by
  refine completes_of_exec_eq ?_ hr
  rw [exec_primetest_of_nonneg hw h0, hv, hreport]

/-- `INFO0 = (SMALLP << 8) | SMALLDIV` is a sum (R151). -/
theorem info0Word_smallDiv {p : Nat} (h : p ∈ Config.smallPrimes) :
    info0Word .smallDiv p = BitVec.ofNat 32 (p * 256 + 4) := by
  have hall : ∀ p ∈ Config.smallPrimes, info0Word .smallDiv p = BitVec.ofNat 32 (p * 256 + 4) := by decide
  exact hall p h

end Sys2Proof.Machine

namespace Sys2Proof.Proofs

open Sys2Proof.Machine

/-- Settles O32: the domain check comes first, and its error writes no register. -/
theorem negativeCandidateIsBadOperand : Obligations.NegativeCandidateIsBadOperand := by
  unfold Obligations.NegativeCandidateIsBadOperand
  intro rs1 s hw hneg
  have hexec : exec (.primetest rs1) s = .next (s.raise .badOperand 0) := by
    rw [exec_primetest_of_written hw, State.finishPrimetest, if_pos hneg]
  exact completes_of_exec_eq hexec (by decide)

/-- Settles O33: each step of the pre-filter with its verdict. -/
theorem primetestPreFilter : Obligations.PrimetestPreFilter := by
  unfold Obligations.PrimetestPreFilter
  rintro rs1 s n hw rfl h0
  refine ⟨fun heven => ?_, fun p hp hodd hdvd hleast => ⟨?_, ?_⟩, fun h1 => ?_, fun h3 hodd hnone => ?_⟩
  · exact primetest_completes hw h0 (primeTest_of_even (Int.dvd_of_emod_eq_zero heven) _ _ _ _) rfl (by decide)
  · rintro rfl
    exact hodd (Int.emod_eq_zero_of_dvd hdvd)
  · rw [← info0Word_smallDiv hp]
    have hfirst := firstDivisor_eq_some hp hdvd hleast
    exact primetest_completes hw h0 (primeTest_of_firstDivisor (by omega) hfirst _ _ _ _) rfl (by decide)
  · exact primetest_completes hw h0 (v := .prime .trivial 0 0) (by rw [h1]; rfl) rfl (by decide)
  · have hdvd3 := hnone 3 (by simp)
    omega

/-- Settles O34: below 29 every odd number past 3 falls to trial division. -/
theorem candidatesThatReachMillerRabin : Obligations.CandidatesThatReachMillerRabin := by
  unfold Obligations.CandidatesThatReachMillerRabin
  intro n h0
  refine ⟨reachesRounds_iff h0, fun h => ?_⟩
  obtain ⟨-, h29, -⟩ := (reachesRounds_iff h0).mp h
  omega

end Sys2Proof.Proofs
end

section
/-! The rounds of PRIMETEST (R146 to R149): how a round ends the command, after rounds that passed, and the statements
O35 to O38 and O40. -/

namespace Sys2Proof.Machine

variable {s : State} {n a v : Int}

/-! ### How a round ends -/

/-- The rounds are over: all of them passed (R146). -/
theorem State.roundsFrom_zero (s : State) (n : Int) (i : Nat) (answers : List WitnessAnswer) :
    s.roundsFrom n 0 i answers = .prime .passed 0 i := rfl

/-- A round that rejects ends PrimeTest with its reason and its index (R149). -/
theorem State.roundsFrom_of_rejects {i : Nat} {answers : List WitnessAnswer} (hW : roundWitness n i answers = .base a)
    (k : Nat) :
    (s.roundOf n a = .one → s.roundsFrom n (k + 1) i answers = .composite .mrOne 0 i) ∧
    (s.roundOf n a = .exhausted → s.roundsFrom n (k + 1) i answers = .composite .mrExhausted 0 i) := by
  unfold State.roundOf
  constructor <;> intro hend <;> simp [State.roundsFrom, rounds, hW, hend]

/-- A failed witness ends PrimeTest with the index of its round (R147). -/
theorem State.roundsFrom_of_fail {i : Nat} {answers : List WitnessAnswer} (hW : roundWitness n i answers = .fail)
    (k : Nat) : s.roundsFrom n (k + 1) i answers = .wfail i := by
  simp [State.roundsFrom, rounds, hW]

theorem roundWitness_of_accepted (h2 : 2 ≤ v) (hn : v ≤ n - 2) (i : Nat) (more : List WitnessAnswer) :
    roundWitness n (i + 1) (.ok v :: more) = .base v := by
  simp only [roundWitness, Nat.succ_ne_zero, if_false]
  exact if_neg (by omega)

theorem roundWitness_of_bad {bad : WitnessAnswer} (h : bad = .err ∨ ∃ v, bad = .ok v ∧ (v < 2 ∨ v > n - 2)) (i : Nat)
    (more : List WitnessAnswer) : roundWitness n (i + 1) (bad :: more) = .fail := by
  simp only [roundWitness, Nat.succ_ne_zero, if_false]
  rcases h with rfl | ⟨v, rfl, hv⟩
  · rfl
  · exact if_pos hv

/-- Round 0 and the rounds of good answers pass, and the next round is reached. -/
theorem State.roundsFrom_after_passes (hpass : s.roundOf n 2 = .pass) {good : List WitnessAnswer}
    (hgood : ∀ a ∈ good, s.passes n a) (k : Nat) (more : List WitnessAnswer) :
    s.roundsFrom n (good.length + k + 1) 0 (good ++ more) = s.roundsFrom n k (good.length + 1) more := by
  rw [State.roundsFrom_zero_of_pass hpass, State.roundsFrom_append_of_passes hgood]

/-! ### The completion -/

/-- A candidate that reaches the rounds completes with their verdict. -/
theorem primetest_completes_of_rounds {rs1 : RegIx} {w : Verdict} {r : ResultCode} {e : ErrCode} {x y : Word}
    (hw : (s.reg rs1).allWritten = true) (h0 : 0 ≤ (s.reg rs1).val) (hr : ReachesRounds (s.reg rs1).val)
    (hv : s.roundsFrom (s.reg rs1).val s.certainty.toNat 0 s.witness = w)
    (hreport : s.report (s.reg rs1).val w = s.complete r e x y) (hne : r ≠ .value) :
    ∃ t, exec (.primetest rs1) s = .next t ∧ Completed r e x y t ∧ CompletionFrame none s t :=
  primetest_completes hw h0 ((primeTest_of_reachesRounds hr s _ _).trans hv) hreport hne

/-- The rounds of a command whose answers begin with good ones, and which asks for a round beyond theirs. -/
theorem State.roundsFrom_witness_of_passes (hpass : s.roundOf n 2 = .pass) {good more : List WitnessAnswer}
    (hgood : ∀ a ∈ good, s.passes n a) (hs : s.witness = good ++ more) (hc : good.length + 1 < s.certainty.toNat) :
    ∃ k, s.roundsFrom n s.certainty.toNat 0 s.witness = s.roundsFrom n (k + 1) (good.length + 1) more := by
  obtain ⟨k, hk⟩ := Nat.exists_eq_add_of_lt hc
  refine ⟨k, ?_⟩
  rw [hs, ← State.roundsFrom_after_passes hpass hgood (k + 1) more, hk]
  congr 1
  omega

end Sys2Proof.Machine

namespace Sys2Proof.Proofs

open Sys2Proof.Machine

/-- Settles O35: no round is left. -/
theorem certaintyZeroAcceptsWithoutARound : Obligations.CertaintyZeroAcceptsWithoutARound := by
  unfold Obligations.CertaintyZeroAcceptsWithoutARound
  intro rs1 s hw h0 hr hc
  have hnone : s.roundsFrom (s.reg rs1).val s.certainty.toNat 0 s.witness = .prime .passed 0 0 := by
    simp [hc, State.roundsFrom_zero]
  exact primetest_completes_of_rounds hw h0 hr hnone rfl (by decide)

/-- Settles O36: the rounds pass one after another, and none is left. -/
theorem allRoundsPassedIsPrime : Obligations.AllRoundsPassedIsPrime := by
  unfold Obligations.AllRoundsPassedIsPrime
  intro rs1 s good more hw h0 hr hs hc hpass hgood
  have hpassed : s.roundsFrom (s.reg rs1).val s.certainty.toNat 0 s.witness = .prime .passed 0 s.certainty.toNat := by
    rw [hs, hc]
    exact State.roundsFrom_after_passes hpass hgood 0 more
  have hcount : BitVec.ofNat 32 s.certainty.toNat = s.certainty := by simp
  refine primetest_completes_of_rounds hw h0 hr hpassed ?_ (by decide)
  rw [State.report, hcount]
  rfl

/-- Settles O37: a rejecting round, reached after rounds that passed, decides the verdict. -/
theorem firstRejectingRoundIsReported : Obligations.FirstRejectingRoundIsReported := by
  unfold Obligations.FirstRejectingRoundIsReported
  intro rs1 s hw h0 hr
  refine ⟨fun hc => ?_, fun good more v hs hc hpass hgood h2 hn => ?_⟩
  · obtain ⟨k, hk⟩ := Nat.exists_eq_add_of_le' hc
    obtain ⟨hone, hexhausted⟩ := s.roundsFrom_of_rejects (n := (s.reg rs1).val) (i := 0) (answers := s.witness) rfl k
    rw [← hk] at hone hexhausted
    exact ⟨fun hend => primetest_completes_of_rounds hw h0 hr (hone hend) rfl (by decide),
      fun hend => primetest_completes_of_rounds hw h0 hr (hexhausted hend) rfl (by decide)⟩
  · obtain ⟨k, hk⟩ := State.roundsFrom_witness_of_passes hpass hgood hs hc
    obtain ⟨hone, hexhausted⟩ := s.roundsFrom_of_rejects (roundWitness_of_accepted h2 hn good.length more) k
    rw [← hk] at hone hexhausted
    exact ⟨fun hend => primetest_completes_of_rounds hw h0 hr (hone hend) rfl (by decide),
      fun hend => primetest_completes_of_rounds hw h0 hr (hexhausted hend) rfl (by decide)⟩

/-- Settles O38: a bad answer, reached after rounds that passed, ends the command. -/
theorem badWitnessIsErrWitness : Obligations.BadWitnessIsErrWitness := by
  unfold Obligations.BadWitnessIsErrWitness
  intro rs1 s good more bad hw h0 hr hs hc hpass hgood hbad
  obtain ⟨k, hk⟩ := State.roundsFrom_witness_of_passes hpass hgood hs hc
  have hfail := hk.trans (State.roundsFrom_of_fail (roundWitness_of_bad hbad good.length more) k)
  exact primetest_completes_of_rounds hw h0 hr hfail rfl (by decide)

/-- Settles O40: the only verdict that is no completion waits for a round past the answers, and there is none. -/
theorem primetestEndsOnceAnswered : Obligations.PrimetestEndsOnceAnswered := by
  unfold Obligations.PrimetestEndsOnceAnswered
  intro rs1 s hw h0 hc
  have hexec := exec_primetest_of_nonneg hw h0
  obtain ⟨-, hframe⟩ := exec_completionFrame hexec
  have hallowed := primeTest_allowed s.param.kWin s.param.mrLim (s.reg rs1).val s.certainty.toNat s.witness
  refine ⟨_, hexec, ?_⟩
  cases hv : primeTest s.param.kWin s.param.mrLim (s.reg rs1).val s.certainty.toNat s.witness <;>
    rw [hv] at hframe hallowed
  case prime => exact ⟨rfl, rfl, rfl, hframe (by simp [State.report]), .inl ⟨rfl, .inl rfl⟩⟩
  case composite => exact ⟨rfl, rfl, rfl, hframe (by simp [State.report]), .inl ⟨rfl, .inr rfl⟩⟩
  case wfail i =>
    obtain ⟨hlo, hhi⟩ := hallowed
    have hi : (BitVec.ofNat 32 i).toNat = i := Nat.mod_eq_of_lt (hhi.trans s.certainty.isLt)
    exact ⟨rfl, rfl, rfl, hframe (by simp [State.report]),
      .inr ⟨rfl, rfl, hi.symm ▸ hlo, hi.symm ▸ hhi⟩⟩
  case waiting i =>
    obtain ⟨hround, hlt⟩ := hallowed
    omega

end Sys2Proof.Proofs
end

section
/-! The Miller-Rabin round on a prime (R145, R148, R149, R152, R154): what `split` computes, the round as a test of one
power of the witness, Euler's criterion under the reference limit, and the statements O41 to O44. -/

namespace Sys2Proof.Machine

/-! ### The decomposition (R11, R145) -/

/-- Halving keeps `2^s * r`, and a bound of at least `r` lets it go on until `r` is odd. -/
theorem splitLoop_spec {k : Nat} {r : Int} (hr : 0 < r) (hk : r ≤ k) (s : Nat) :
    2 ^ (splitLoop k s r).1 * (splitLoop k s r).2 = 2 ^ s * r ∧ (splitLoop k s r).2 % 2 = 1 := by
  induction k generalizing s r with
  | zero => omega
  | succ k ih =>
    rw [splitLoop, trem_of_nonneg hr.le, tdiv_of_nonneg hr.le]
    split
    · next heven =>
      obtain ⟨hprod, hodd⟩ := ih (r := r / 2) (by omega) (by omega) (s + 1)
      refine ⟨?_, hodd⟩
      rw [hprod, pow_succ, mul_assoc, Int.mul_ediv_cancel' (Int.dvd_of_emod_eq_zero heven)]
    · exact ⟨rfl, by omega⟩

/-- `m = 2^s * r` with `r` odd. -/
theorem split_spec {m : Int} (hm : 0 < m) :
    2 ^ (split m).1 * (split m).2 = m ∧ (split m).2 % 2 = 1 ∧ 0 < (split m).2 := by
  obtain ⟨hprod, hodd⟩ := splitLoop_spec hm (by omega : m ≤ m.toNat) 0
  rw [pow_zero, one_mul] at hprod
  refine ⟨hprod, hodd, pos_of_mul_pos_right ?_ (by positivity : (0 : Int) ≤ 2 ^ (split m).1)⟩
  exact hm.trans_eq hprod.symm

/-- An even number is halved at least once. -/
theorem one_le_split {m : Int} (hm : 0 < m) (heven : 2 ∣ m) : 1 ≤ (split m).1 := by
  obtain ⟨hprod, hodd, -⟩ := split_spec hm
  by_contra h0
  rw [show (split m).1 = 0 by omega, pow_zero, one_mul] at hprod
  omega

/-- A number is halved twice or more exactly when 4 divides it. -/
theorem two_le_split_iff {m : Int} (hm : 0 < m) (heven : 2 ∣ m) : 2 ≤ (split m).1 ↔ 4 ∣ m := by
  obtain ⟨hprod, hodd, -⟩ := split_spec hm
  have h1 := one_le_split hm heven
  constructor
  · intro h2
    rw [← hprod]
    exact (pow_dvd_pow (2 : Int) h2).mul_right _
  · intro h4
    by_contra hlt
    rw [show (split m).1 = 1 by omega, pow_one] at hprod
    omega

/-! ### Remainders as residues modulo a prime -/

variable {p : Nat} {a x : Int}

@[simp] theorem cast_trem (x : Int) (p : Nat) : ((trem x p : Int) : ZMod p) = x :=
  ((ZMod.intCast_eq_intCast_iff_dvd_sub _ _ p).mpr (dvd_trem_sub_self x p)).symm

/-- A witness in `[2, p - 2]` is not 0 modulo `p`. -/
theorem cast_witness_ne_zero (h2 : 2 ≤ a) (hle : a ≤ p - 2) : (a : ZMod p) ≠ 0 := by
  rw [Ne, ZMod.intCast_zmod_eq_zero_iff_dvd]
  intro hdvd
  have := Int.le_of_dvd (by omega) hdvd
  omega

section
variable [Fact p.Prime]

/-- Modulo a prime the only square roots of 1 are 1 and `p - 1` (R154). -/
theorem eq_one_or_eq_sub_one_iff (h0 : 0 ≤ x) (hlt : x < p) : x = 1 ∨ x = p - 1 ↔ (x : ZMod p) ^ 2 = 1 := by
  have hp : 2 ≤ p := (Fact.out : p.Prime).two_le
  have hcast : ∀ y : Int, 0 ≤ y → y < p → (x = y ↔ (x : ZMod p) = y) := by
    intro y hy0 hylt
    rw [ZMod.intCast_eq_intCast_iff', Int.emod_eq_of_lt h0 hlt, Int.emod_eq_of_lt hy0 hylt]
  rw [sq_eq_one_iff, hcast 1 (by omega) (by omega), hcast (p - 1) (by omega) (by omega)]
  simp

/-- The squaring loop on a prime, from an `x` that is no square root of 1: it never meets MR_ONE, and it passes exactly
when one squaring more than its limit gives 1 (R149). -/
theorem squareLoop_of_prime (k : Nat) (hx : (x : ZMod p) ^ 2 ≠ 1) :
    squareLoop p k x = if (x : ZMod p) ^ 2 ^ (k + 1) = 1 then .pass else .exhausted := by
  induction k generalizing x with
  | zero => simp [squareLoop, hx]
  | succ k ih =>
    have hp : 0 < (p : Int) := by have := (Fact.out : p.Prime).pos; omega
    have hsq : ((trem (x * x) p : Int) : ZMod p) = (x : ZMod p) ^ 2 := by simp [sq]
    have hpow : (x : ZMod p) ^ 2 ^ (k + 2) = ((x : ZMod p) ^ 2) ^ 2 ^ (k + 1) := by rw [← pow_mul, ← pow_succ']
    have hroot := eq_one_or_eq_sub_one_iff (trem_nonneg (mul_self_nonneg x) p) (trem_lt (mul_self_nonneg x) hp)
    rw [hsq] at hroot
    have hne1 : trem (x * x) p ≠ 1 := by
      intro h
      rw [h, Int.cast_one] at hsq
      exact hx hsq.symm
    rw [squareLoop, hpow]
    simp only [if_neg hne1]
    by_cases hlast : trem (x * x) p = p - 1
    · have hone := hroot.mp (.inr hlast)
      rw [if_pos hlast, if_pos (by rw [pow_succ' 2 k, pow_mul, hone, one_pow])]
    · have hnext : ((trem (x * x) p : Int) : ZMod p) ^ 2 ≠ 1 := by
        rw [hsq]
        exact fun h => (hroot.mpr h).elim hne1 hlast
      rw [if_neg hlast, ih hnext, hsq]

/-- A round on a prime passes exactly when the witness to the power `r * 2^(limit + 1)` is 1, and it never ends in
MR_ONE (R148, R149). -/
theorem roundBody_of_prime {k : Nat} (hk : 1 ≤ k) (lim : MrLimit) (s : Nat) {r : Int} (hr : 0 ≤ r) (ha : 0 ≤ a) :
    roundBody k lim p s r a =
      if (a : ZMod p) ^ (r.toNat * 2 ^ (mrSqLimit lim s + 1)) = 1 then .pass else .exhausted := by
  have hp : 0 < (p : Int) := by have := (Fact.out : p.Prime).pos; omega
  have hpow : 0 ≤ a ^ r.toNat := pow_nonneg ha _
  have hroot := eq_one_or_eq_sub_one_iff (trem_nonneg hpow p) (trem_lt hpow hp)
  rw [roundBody, modPow_eq hk a p hr, pow_mul]
  simp only [hroot]
  have hcast : ((trem (a ^ r.toNat) p : Int) : ZMod p) = (a : ZMod p) ^ r.toNat := by simp
  by_cases hone : ((trem (a ^ r.toNat) p : Int) : ZMod p) ^ 2 = 1
  · rw [if_pos hone, if_pos]
    rw [← hcast, pow_succ', pow_mul, hone, one_pow]
  · rw [if_neg hone, squareLoop_of_prime _ hone, hcast]

end

/-! ### The two limits on a prime (R152) -/

section
variable (hp : p.Prime) (h29 : 29 ≤ p)
include hp h29

theorem two_dvd_prime_sub_one : (2 : Int) ∣ p - 1 := by
  have hodd := hp.eq_two_or_odd
  omega

/-- `split(p - 1)` in natural numbers. -/
theorem split_prime_sub_one : 1 ≤ (split ((p : Int) - 1)).1 ∧ 0 ≤ (split ((p : Int) - 1)).2 ∧
    (split ((p : Int) - 1)).2.toNat * 2 ^ (split ((p : Int) - 1)).1 = p - 1 := by
  obtain ⟨hprod, -, hpos⟩ := split_spec (show 0 < (p : Int) - 1 by omega)
  refine ⟨one_le_split (by omega) (two_dvd_prime_sub_one hp h29), hpos.le, ?_⟩
  zify [show 1 ≤ p by omega]
  rw [Int.toNat_of_nonneg hpos.le, mul_comm, hprod]

/-- Under `s - 1` a round tests `a^(p-1) = 1`, Fermat's little theorem. -/
theorem roundBody_sMinus1_of_prime {k : Nat} (hk : 1 ≤ k) (h2 : 2 ≤ a) (hle : a ≤ p - 2) :
    roundBody k .sMinus1 p (split (p - 1)).1 (split (p - 1)).2 a = .pass := by
  have : Fact p.Prime := ⟨hp⟩
  obtain ⟨hs, hr, hprod⟩ := split_prime_sub_one hp h29
  rw [roundBody_of_prime hk _ _ hr (by omega), mrSqLimit, Nat.sub_add_cancel hs, hprod,
    ZMod.pow_card_sub_one_eq_one (cast_witness_ne_zero h2 hle), if_pos rfl]

/-- Under `s - 2` and with `s >= 2` a round tests `a^((p-1)/2) = 1`, Euler's criterion. -/
theorem roundBody_sMinus2_of_prime {k : Nat} (hk : 1 ≤ k) (hs : 2 ≤ (split ((p : Int) - 1)).1) (h2 : 2 ≤ a) :
    roundBody k .sMinus2 p (split (p - 1)).1 (split (p - 1)).2 a =
      if (a : ZMod p) ^ (p / 2) = 1 then .pass else .exhausted := by
  have : Fact p.Prime := ⟨hp⟩
  obtain ⟨-, hr, hprod⟩ := split_prime_sub_one hp h29
  have hhalf : (split ((p : Int) - 1)).2.toNat * 2 ^ ((split ((p : Int) - 1)).1 - 2 + 1) = p / 2 := by
    obtain ⟨m, hm⟩ := Nat.exists_eq_add_of_le' hs
    rw [hm, pow_succ, ← mul_assoc] at hprod
    rw [hm, Nat.add_sub_cancel]
    have hodd := hp.eq_two_or_odd
    omega
  rw [roundBody_of_prime hk _ _ hr (by omega), mrSqLimit, hhalf]

/-- With `s = 1` both limits are 0. -/
theorem roundBody_sMinus2_eq_sMinus1 (k : Nat) (hs : ¬ 2 ≤ (split ((p : Int) - 1)).1) (a : Int) :
    roundBody k .sMinus2 p (split (p - 1)).1 (split (p - 1)).2 a =
      roundBody k .sMinus1 p (split (p - 1)).1 (split (p - 1)).2 a := by
  obtain ⟨h1, -⟩ := split_prime_sub_one hp h29
  have hlim : mrSqLimit .sMinus2 (split ((p : Int) - 1)).1 = mrSqLimit .sMinus1 (split ((p : Int) - 1)).1 := by
    simp only [mrSqLimit]
    omega
  rw [roundBody, roundBody, hlim]

/-- The reference limit rejects the quadratic non-residues when `s >= 2`, with MR_EXHAUSTED, and passes all else. -/
theorem roundBody_sMinus2_iff {k : Nat} (hk : 1 ≤ k) (h2 : 2 ≤ a) (hle : a ≤ p - 2) :
    (roundBody k .sMinus2 p (split (p - 1)).1 (split (p - 1)).2 a = .exhausted ↔
      2 ≤ (split ((p : Int) - 1)).1 ∧ ¬ IsSquare (a : ZMod p)) ∧
    (roundBody k .sMinus2 p (split (p - 1)).1 (split (p - 1)).2 a = .pass ↔
      ¬ (2 ≤ (split ((p : Int) - 1)).1 ∧ ¬ IsSquare (a : ZMod p))) := by
  have : Fact p.Prime := ⟨hp⟩
  by_cases hs : 2 ≤ (split ((p : Int) - 1)).1
  · rw [roundBody_sMinus2_of_prime hp h29 hk hs h2, ZMod.euler_criterion p (cast_witness_ne_zero h2 hle)]
    split <;> simp [*]
  · rw [roundBody_sMinus2_eq_sMinus1 hp h29 k hs, roundBody_sMinus1_of_prime hp h29 hk h2 hle]
    simp [hs]

theorem reachesRounds_of_prime : ReachesRounds p := by
  rw [reachesRounds_iff (by omega)]
  refine ⟨by have := hp.eq_two_or_odd; omega, by omega, fun q hq _ hle hdvd => ?_⟩
  have heq := (Nat.prime_dvd_prime_iff_eq hq hp).mp (Int.natCast_dvd_natCast.mp hdvd)
  omega

end

/-! ### What COMPOSITE means (R154) -/

theorem roundWitness_mem_range {n : Int} {i : Nat} {answers : List WitnessAnswer} (hn : 4 ≤ n)
    (h : roundWitness n i answers = .base a) : 2 ≤ a ∧ a ≤ n - 2 := by
  unfold roundWitness at h
  split at h
  · cases h
    omega
  · split at h
    · cases h
    · cases h
    · split at h <;> cases h
      omega

/-- A verdict COMPOSITE of the rounds is that of a round with an accepted witness. -/
theorem exists_round_of_rounds_composite {k : Nat} {lim : MrLimit} {n : Int} {s : Nat} {r : Int} (hn : 4 ≤ n)
    {reason : Reason} {q j : Nat} (c i : Nat) (answers : List WitnessAnswer)
    (h : rounds k lim n s r c i answers = .composite reason q j) :
    ∃ a, 2 ≤ a ∧ a ≤ n - 2 ∧ ((reason = .mrOne ∧ roundBody k lim n s r a = .one) ∨
      (reason = .mrExhausted ∧ roundBody k lim n s r a = .exhausted)) := by
  induction c generalizing i answers with
  | zero => simp [rounds] at h
  | succ c ih =>
    rcases roundWitness_cases n i answers with ⟨-, -, hW⟩ | ⟨-, hW⟩ | ⟨-, a, hW⟩ <;> simp only [rounds, hW] at h
    · cases h
    · cases h
    · obtain ⟨h2, hle⟩ := roundWitness_mem_range hn hW
      cases hend : roundBody k lim n s r a <;> rw [hend] at h
      case one => cases h; exact ⟨a, h2, hle, .inl ⟨rfl, hend⟩⟩
      case exhausted => cases h; exact ⟨a, h2, hle, .inr ⟨rfl, hend⟩⟩
      case pass => exact ih _ _ h

/-- A round that ends in MR_ONE met a square root of 1 that is neither 1 nor `n - 1`. -/
theorem not_prime_of_roundBody_one {k : Nat} (hk : 1 ≤ k) {lim : MrLimit} {n s : Nat} {r : Int} (hr : 0 ≤ r)
    (ha : 0 ≤ a) (h : roundBody k lim n s r a = .one) : ¬ n.Prime := by
  intro hprime
  have : Fact n.Prime := ⟨hprime⟩
  rw [roundBody_of_prime hk lim s hr ha] at h
  split at h <;> cases h

end Sys2Proof.Machine

namespace Sys2Proof.Proofs

open Sys2Proof.Machine

/-- Settles O41: each limit decides which power of the witness a round tests. -/
theorem roundOnAPrime : Obligations.RoundOnAPrime := by
  unfold Obligations.RoundOnAPrime
  intro k p a hk hp h29 h2 hle
  obtain ⟨hexhausted, hpass⟩ := roundBody_sMinus2_iff hp h29 hk h2 hle
  exact ⟨hexhausted, hpass, roundBody_sMinus1_of_prime hp h29 hk h2 hle⟩

/-- Settles O42: `s >= 2` means `p = 1 (mod 4)`, and 2 is a residue exactly modulo the primes `p = 1, 7 (mod 8)`. -/
theorem referenceLimitOnPrimes : Obligations.ReferenceLimitOnPrimes := by
  unfold Obligations.ReferenceLimitOnPrimes
  intro rs1 s p hwf hlim hw hval hp h29
  have : Fact p.Prime := ⟨hp⟩
  obtain ⟨-, hk, -⟩ := (Params.wf_iff s.param).mp hwf
  have hround : ∀ a, s.roundOf p a =
      roundBody s.param.kWin .sMinus2 p (split (p - 1)).1 (split (p - 1)).2 a := by
    intro a
    rw [State.roundOf, hlim]
  have hs := two_le_split_iff (by omega) (two_dvd_prime_sub_one hp h29)
  obtain ⟨hexhausted, hpass⟩ := roundBody_sMinus2_iff hp h29 hk le_rfl (show (2 : Int) ≤ p - 2 by omega)
  have htwo := ZMod.exists_sq_eq_two_iff (p := p) (by omega)
  refine ⟨fun h3 a h2 hle => ?_, fun h5 hc => ?_, fun h1 => ?_⟩
  · rw [hround, (roundBody_sMinus2_iff hp h29 hk h2 hle).2, hs]
    omega
  · have hend : s.roundOf p 2 = .exhausted := by
      rw [hround, hexhausted, hs, Int.cast_ofNat, htwo]
      omega
    rw [← hval] at hend
    have hreach := reachesRounds_of_prime hp h29
    rw [← hval] at hreach
    exact ((firstRejectingRoundIsReported rs1 s hw (by omega) hreach).1 hc).2 hend
  · rw [hround, hpass, Int.cast_ofNat, htwo]
    omega

/-- Settles O43: every round passes, and the answers are good, so that the first `CERTAINTY - 1` of them are used. -/
theorem alternativeLimitAcceptsEveryPrime : Obligations.AlternativeLimitAcceptsEveryPrime := by
  unfold Obligations.AlternativeLimitAcceptsEveryPrime
  intro rs1 s p hwf hlim hw hval hp h29 hc hanswered hgood
  obtain ⟨-, hk, -⟩ := (Params.wf_iff s.param).mp hwf
  have hpass : ∀ a : Int, 2 ≤ a → a ≤ p - 2 → s.roundOf p a = .pass := by
    intro a h2 hle
    rw [State.roundOf, hlim]
    exact roundBody_sMinus1_of_prime hp h29 hk h2 hle
  have hpasses : ∀ a ∈ s.witness.take (s.certainty.toNat - 1), s.passes p a := by
    intro a ha
    obtain ⟨v, rfl, h2, hle⟩ := hgood a (List.mem_of_mem_take ha)
    exact ⟨v, rfl, h2, hle, hpass v h2 hle⟩
  have hlen : s.certainty.toNat = (s.witness.take (s.certainty.toNat - 1)).length + 1 := by
    rw [List.length_take]
    omega
  have hreach := reachesRounds_of_prime hp h29
  have hzero := hpass 2 le_rfl (by omega)
  rw [← hval] at hreach hzero hpasses
  exact allRoundsPassedIsPrime rs1 s _ _ hw (by omega) hreach (List.take_append_drop _ _).symm hlen hzero hpasses

/-- Settles O44: each reason has its own step of PrimeTest, and no round on a prime ends in MR_ONE. -/
theorem compositeReasonsAreSound : Obligations.CompositeReasonsAreSound := by
  unfold Obligations.CompositeReasonsAreSound
  intro k lim n c answers p j hk
  rcases primeTest_cases k lim n c answers with ⟨h2, e⟩ | ⟨q, hq, e⟩ | e | ⟨hreach, e⟩ <;> rw [e]
  · exact ⟨fun h => (by cases h), fun _ => Int.natCast_dvd_natCast.mp h2, fun h => (by cases h)⟩
  · refine ⟨fun h => (by cases h), fun h => (by cases h), fun h => ?_⟩
    cases h
    obtain ⟨hmem, hdvd⟩ := mem_and_dvd_of_firstDivisor hq
    exact ⟨prime_of_mem_smallPrimes hmem, Int.natCast_dvd_natCast.mp hdvd⟩
  · exact ⟨fun h => (by cases h), fun h => (by cases h), fun h => (by cases h)⟩
  · obtain ⟨-, h29, -⟩ := (reachesRounds_iff (by omega)).mp hreach
    refine ⟨fun h => ?_, fun h => ?_, fun h => ?_⟩ <;>
      obtain ⟨a, h2, -, hend⟩ := exists_round_of_rounds_composite (by omega) c 0 answers h
    · obtain ⟨-, hone⟩ | ⟨⟨⟩, -⟩ := hend
      obtain ⟨-, -, hr⟩ := split_spec (show 0 < (n : Int) - 1 by omega)
      exact ⟨by omega, not_prime_of_roundBody_one hk hr.le (by omega) hone⟩
    · simp at hend
    · simp at hend

end Sys2Proof.Proofs
end

section
/-! Errors and the interrupt (60_exceptions.md): an error completion and its INFO1, a command on contents whatever the
written-word map says of them, and the level of `irq`. The statements O5, O10, O19 and O54. -/

namespace Sys2Proof.Machine

variable {s s' t t' : State}

/-! ### Error completions (R173, R175) -/

/-- What INFO1 can be beside an error (R175): 0, or for ERR_WITNESS a round of the `c` rounds after round 0. -/
def ErrorInfo1 (c : Word) (e : ErrCode) (b : Word) : Prop :=
  (e ≠ .witness → b = 0) ∧ (e = .witness → 1 ≤ b.toNat ∧ b.toNat < c.toNat)

theorem errorInfo1_zero {e : ErrCode} (h : e ≠ .witness) (c : Word) : ErrorInfo1 c e 0 :=
  ⟨fun _ => rfl, fun he => absurd he h⟩

theorem errorInfo1_witness {c : Word} {i : Nat} (h1 : 1 ≤ i) (hc : i < c.toNat) :
    ErrorInfo1 c .witness (BitVec.ofNat 32 i) := by
  have hi : (BitVec.ofNat 32 i).toNat = i := Nat.mod_eq_of_lt (hc.trans c.isLt)
  exact ⟨fun h => absurd rfl h, fun _ => by rw [hi]; exact ⟨h1, hc⟩⟩

theorem State.finishModpow_error {rd : RegIx} {b e m : Int} (h : (s.finishModpow rd b e m).status.err ≠ .none) :
    ∃ x y, s.finishModpow rd b e m = s.raise x y ∧ ErrorInfo1 s.certainty x y := by
  rcases s.finishModpow_cases rd b e m with ⟨-, hf⟩ | ⟨-, -, hf⟩ | ⟨-, -, hf⟩
  · exact ⟨_, _, hf, errorInfo1_zero (by decide) _⟩
  · exact ⟨_, _, hf, errorInfo1_zero (by decide) _⟩
  · exact absurd (by rw [hf]; rfl) h

theorem State.finishModinv_error {rd : RegIx} {a n : Int} (h : (s.finishModinv rd a n).status.err ≠ .none) :
    ∃ x y, s.finishModinv rd a n = s.raise x y ∧ ErrorInfo1 s.certainty x y := by
  rcases s.finishModinv_cases rd a n with ⟨-, hf⟩ | ⟨-, -, hf⟩ | ⟨-, -, -, hf⟩ | ⟨-, -, _, -, hf⟩
  · exact ⟨_, _, hf, errorInfo1_zero (by decide) _⟩
  · exact ⟨_, _, hf, errorInfo1_zero (by decide) _⟩
  · exact absurd (by rw [hf]; rfl) h
  · exact absurd (by rw [hf]; rfl) h

/-- A verdict is reported as an error only when a witness failed; a wait leaves the ERR that was there. -/
theorem State.report_error {n : Int} {v : Verdict} {w : Nat} (hv : v.Allowed s.certainty.toNat w)
    (hs : s.status.err = .none) (h : (s.report n v).status.err ≠ .none) :
    ∃ x y, s.report n v = s.raise x y ∧ ErrorInfo1 s.certainty x y := by
  cases v with
  | prime reason p k => exact absurd rfl h
  | composite reason p k => exact absurd rfl h
  | wfail i => exact ⟨_, _, rfl, errorInfo1_witness hv.1 hv.2⟩
  | waiting i => exact absurd hs h

theorem State.finishPrimetest_error {n : Int} (hs : s.status.err = .none)
    (h : (s.finishPrimetest n).status.err ≠ .none) :
    ∃ x y, s.finishPrimetest n = s.raise x y ∧ ErrorInfo1 s.certainty x y := by
  rcases s.finishPrimetest_cases n with ⟨-, hf⟩ | ⟨-, hf⟩
  · exact ⟨_, _, hf, errorInfo1_zero (by decide) _⟩
  · rw [hf] at h ⊢
    exact State.report_error (primeTest_allowed ..) hs h

/-- A command that ends with an error has read its sources and raised it (R170, R175). -/
theorem exec_error {i : Instr} (hs : s.status.err = .none) (h : exec i s = .next t) (ht : t.status.err ≠ .none) :
    ∃ x y, t = (s.noteSources i.sources).raise x y ∧ ErrorInfo1 s.certainty x y := by
  cases i with
  | modpow rd rs1 rs2 rs3 => cases h; exact State.finishModpow_error ht
  | modinv rd rs1 rs2 => cases h; exact State.finishModinv_error ht
  | primetest rs1 => cases h; exact State.finishPrimetest_error hs ht

/-- The engine's step shows an error only by raising it: of a word that is no command, or of a command whose sources
it has read. -/
theorem State.engineStep_error (hs : s.status.err = .none) (h : s.engineStep = .next t)
    (ht : t.status.err ≠ .none) :
    ∃ l x y, t = (s.noteSources l).raise x y ∧ ErrorInfo1 s.certainty x y := by
  have hnil : s.noteSources [] = s := State.noteSources_of_written rfl
  rcases State.engineStep_cases h with ⟨-, rfl⟩ | ⟨-, -, rfl⟩ | ⟨-, -, rfl⟩ | ⟨-, i, -, hx⟩
  · exact absurd hs ht
  · exact ⟨[], _, _, by rw [hnil], errorInfo1_zero (by decide) _⟩
  · exact ⟨[], _, _, by rw [hnil], errorInfo1_zero (by decide) _⟩
  · exact ⟨i.sources, exec_error hs hx ht⟩

/-! ### A command on the contents of its sources (R24, R181) -/

/-- Two states that differ at most in which words count as written and in the record of the model fault. -/
structure SameContents (s s' : State) : Prop where
  bits : ∀ r : RegIx, (s'.reg r).map RegWord.bits = (s.reg r).map RegWord.bits
  rest : s' = { s with regs := s'.regs, modelFault := s'.modelFault }

theorem SameContents.val (h : SameContents s s') (r : RegIx) : (s'.reg r).val = (s.reg r).val :=
  congrArg wordsVal (h.bits r)

theorem SameContents.param (h : SameContents s s') : s'.param = s.param := by rw [h.rest]

theorem SameContents.certainty (h : SameContents s s') : s'.certainty = s.certainty := by rw [h.rest]

theorem SameContents.witness (h : SameContents s s') : s'.witness = s.witness := by rw [h.rest]

theorem SameContents.noteSources (h : SameContents s s') (l : List RegIx) :
    SameContents (s.noteSources l) (s'.noteSources l) where
  bits := h.bits
  rest := congrArg (fun u : State => { u with modelFault := (s'.noteSources l).modelFault }) h.rest

theorem SameContents.complete (h : SameContents s s') (r : ResultCode) (e : ErrCode) (a b : Word) :
    SameContents (s.complete r e a b) (s'.complete r e a b) where
  bits := h.bits
  rest := congrArg (State.complete · r e a b) h.rest

theorem SameContents.with_wreq (h : SameContents s s') (q : Option WitnessReq) :
    SameContents { s with wreq := q } { s' with wreq := q } where
  bits := h.bits
  rest := congrArg (fun u : State => { u with wreq := q }) h.rest

/-- The destination gets the same words in both states, every one written. -/
theorem SameContents.writeResult (h : SameContents s s') (rd : RegIx) (v : Int) :
    SameContents (s.writeResult rd v) (s'.writeResult rd v) where
  bits := by
    intro r
    by_cases hr : rd = r
    · subst hr; simp [h.param]
    · simpa [State.reg_writeResult_of_ne _ hr] using h.bits r
  rest := congrArg (fun u : State => { u with regs := (s'.writeResult rd v).regs }) h.rest

theorem SameContents.finishModpow (h : SameContents s s') (rd : RegIx) (b e m : Int) :
    SameContents (s.finishModpow rd b e m) (s'.finishModpow rd b e m) := by
  unfold State.finishModpow
  rw [h.param]
  split_ifs
  · exact h.complete ..
  · exact h.complete ..
  · exact (h.writeResult rd _).complete ..

theorem SameContents.finishModinv (h : SameContents s s') (rd : RegIx) (a n : Int) :
    SameContents (s.finishModinv rd a n) (s'.finishModinv rd a n) := by
  unfold State.finishModinv
  split_ifs
  · exact h.complete ..
  · exact h.complete ..
  · rcases modInv a n with ⟨_ | x, iters⟩
    · exact h.complete ..
    · exact (h.writeResult rd x).complete ..

theorem SameContents.report (h : SameContents s s') (n : Int) (v : Verdict) :
    SameContents (s.report n v) (s'.report n v) := by
  cases v with
  | waiting i => exact h.with_wreq _
  | _ => exact h.complete ..

theorem SameContents.finishPrimetest (h : SameContents s s') (n : Int) :
    SameContents (s.finishPrimetest n) (s'.finishPrimetest n) := by
  unfold State.finishPrimetest
  rw [h.param, h.certainty, h.witness]
  split_ifs
  · exact h.complete ..
  · exact h.report ..

/-- A command reads values alone, so that it keeps two states the same but for the written-word map. -/
theorem SameContents.after_exec {i : Instr} (h : SameContents s s') (hs : exec i s = .next t)
    (hs' : exec i s' = .next t') : SameContents t t' := by
  have hn := h.noteSources i.sources
  cases i with
  | modpow rd rs1 rs2 rs3 =>
    rw [exec_modpow] at hs hs'
    rw [h.val, h.val, h.val] at hs'
    cases hs; cases hs'
    exact hn.finishModpow ..
  | modinv rd rs1 rs2 =>
    rw [exec_modinv] at hs hs'
    rw [h.val, h.val] at hs'
    cases hs; cases hs'
    exact hn.finishModinv ..
  | primetest rs1 =>
    rw [exec_primetest] at hs hs'
    rw [h.val] at hs'
    cases hs; cases hs'
    exact hn.finishPrimetest _

/-! ### The level of `irq` (R179) -/

theorem State.irq_iff (s : State) : s.irq = true ↔ s.status.done = true ∧ s.ie = true := Bool.and_eq_true_iff

/-- The engine's step leaves the interrupt enable (R87). -/
theorem State.engineStep_ie (h : s.engineStep = .next t) : t.ie = s.ie := by
  rcases State.engineStep_cases h with ⟨-, rfl⟩ | ⟨-, -, rfl⟩ | ⟨-, -, rfl⟩ | ⟨-, i, -, hx⟩
  · rfl
  · rfl
  · rfl
  · exact (exec_completionFrame hx).1.ie

theorem State.irq_of_completion (hb : s.status.busy = true) (h : s.engineStep = .next t)
    (ht : t.status.busy = false) : t.irq = s.ie := by
  rcases State.engineStep_outcome h with hst | ⟨-, -, hdone⟩
  · simp [hst, hb] at ht
  · rw [State.irq, hdone, State.engineStep_ie h, Bool.true_and]

theorem State.irq_hostWrite {a : Addr} {g : Target} (h : target s.param a = some g) (w : Word) :
    (s.hostWrite a w 0b1111).irq = (s.portWrite w g).irq := by
  rw [State.hostWrite_of_target h]
  rfl

theorem State.irq_ackStatus (s : State) (w : Word) : (s.ackStatus w).irq = (s.irq && !w.getLsbD 1) :=
  Bool.and_right_comm ..

end Sys2Proof.Machine

namespace Sys2Proof.Proofs

open Sys2Proof.Machine

/-- Settles O5: the word fails the OPC check, of which the all-zero word is a case, and the engine raises the error. -/
theorem undefinedOpcodeCompletesIllegal : Obligations.UndefinedOpcodeCompletesIllegal := by
  unfold Obligations.UndefinedOpcodeCompletesIllegal
  intro s hb hcmd
  have hd : decode s.cmd = .error .illegalOpcode := by
    rcases hcmd with hopc | hzero
    · rw [decode_eq_illegalOpcode_iff, ← opcDefined_iff]
      simpa using hopc
    · rw [hzero]
      decide
  exact ⟨_, State.engineStep_illegalOpcode hb hd, completed_raise s _ 0, completionFrame_raise s _ 0⟩

/-- Settles O10: the two states have the same contents, which the command keeps, and only the record of the model fault
reads the written-word map. -/
theorem unwrittenSourcesComputeWithTheirContents : Obligations.UnwrittenSourcesComputeWithTheirContents := by
  unfold Obligations.UnwrittenSourcesComputeWithTheirContents
  intro i s regs hbits
  obtain ⟨t, ht⟩ := exec_answers_next i s
  obtain ⟨t', ht'⟩ := exec_answers_next i { s with regs := regs }
  obtain ⟨hsame, hrest⟩ := SameContents.after_exec ⟨hbits, rfl⟩ ht ht'
  exact ⟨t, t', ht, ht', by simp [exec_modelFault ht, State.sourcesWritten_eq_false_iff], hsame, hrest⟩

/-- Settles O19: the only error completion is `raise`, after at most a record of the model fault. -/
theorem errorCompletionChangesNothingElse : Obligations.ErrorCompletionChangesNothingElse := by
  unfold Obligations.ErrorCompletionChangesNothingElse
  intro s t _ hs h ht
  obtain ⟨l, x, y, rfl, hinfo⟩ := State.engineStep_error hs h ht
  exact ⟨completed_raise _ x y, completionFrame_complete s l .none x 0 y, hinfo⟩

/-- Settles O54: the level at a completion, and at each write and reset that moves DONE or IE. -/
theorem irqIsTheLevelOfDoneAndEnable : Obligations.IrqIsTheLevelOfDoneAndEnable := by
  unfold Obligations.IrqIsTheLevelOfDoneAndEnable
  intro s t
  refine ⟨s.irq_iff, State.irq_of_completion, fun w => ?_, fun w => ?_, fun w hb => ?_, rfl⟩
  · exact State.irq_hostWrite (target_ctrl _) w
  · exact (State.irq_hostWrite (target_status _) w).trans (s.irq_ackStatus w)
  · rw [State.irq_hostWrite (target_cmd _), State.portWrite_cmd_idle hb]
    rfl

end Sys2Proof.Proofs
end

section
/-! Reset (70_reset_and_hazards.md): R201's table as a predicate on states, what the port reads and the agents do in such
a state, and that power-on and every reset move give one. The statements O12, O13 and O14. -/

namespace Sys2Proof.Machine

variable {s : State} {a : Addr} {g : Target}

/-! ### Current values at the port -/

theorem State.peek_of_target (h : target s.param a = some g) (hd : s.takesDraw g = false) :
    s.peek a = some (s.portData g) := by
  simp [State.peek, h, hd]

theorem State.takesDraw_regWord_of_unwritten {i : RegIx} (h : ∀ x ∈ s.reg i, x.written = false) (j : Nat) :
    s.takesDraw (.regWord i j) = true := by
  rcases hx : (s.reg i)[j]? with _ | x
  · simp [State.takesDraw, State.isWritten, hx]
  · simp [State.takesDraw, State.isWritten, hx, h x (List.mem_of_getElem? hx)]

/-- A word of a register that nothing has written has no value to read (R24, R55). -/
theorem State.peek_regWordAddr_of_unwritten {i : RegIx} {j : Nat} (hp : s.param.wf = true) (hj : j < s.param.opw32)
    (h : ∀ x ∈ s.reg i, x.written = false) : s.peek (regWordAddr s.param i j) = none := by
  simp [State.peek, target_regWordAddr hp i hj, State.takesDraw_regWord_of_unwritten h j]

/-- An answer of the witness source without a command in flight changes nothing (R202, log 7). -/
theorem State.answerWitness_idle (hb : s.status.busy = false) (wErr : Bool) (wData : Nat) :
    s.answerWitness wErr wData = s := by
  simp [State.answerWitness, hb]

/-! ### The state of R201 -/

/-- R201's table: `s` is a state after reset of the instance with parameters `p`. -/
structure State.AfterReset (p : Params) (s : State) : Prop where
  param     : s.param = p
  regWords  : ∀ i : RegIx, (s.reg i).length = p.opw32
  unwritten : ∀ i : RegIx, ∀ x ∈ s.reg i, x.written = false
  ie        : s.ie = false
  status    : s.status = ⟨false, false, false, .none, .none⟩
  cmd       : s.cmd = 0
  certainty : s.certainty = Config.certReset
  info0     : s.info0 = 0
  info1     : s.info1 = 0
  wreq      : s.wreq = none
  witness   : s.witness = []

theorem State.afterReset_powerOn (p : Params) : (State.powerOn p).AfterReset p where
  param     := rfl
  regWords i := by
    rw [State.reg_powerOn]
    exact Reg.length_unwritten p
  unwritten i x hx := by
    rw [State.reg_powerOn] at hx
    rw [List.eq_of_mem_replicate hx]
  ie        := rfl
  status    := rfl
  cmd       := rfl
  certainty := rfl
  info0     := rfl
  info1     := rfl
  wreq      := rfl
  witness   := rfl

theorem State.afterReset_resetEngine (s : State) : s.resetEngine.AfterReset s.param where
  param     := s.resetEngine_param
  regWords i := by simp
  unwritten i x hx := Reg.written_of_mem_unspecified (by simpa using hx)
  ie        := rfl
  status    := rfl
  cmd       := rfl
  certainty := rfl
  info0     := rfl
  info1     := rfl
  wreq      := rfl
  witness   := rfl

namespace State.AfterReset

variable {p : Params}

theorem busy (h : s.AfterReset p) : s.status.busy = false := by rw [h.status]

theorem irq (h : s.AfterReset p) : s.irq = false := by rw [State.irq, h.status, Bool.false_and]

theorem wReq (h : s.AfterReset p) : s.wReq = false := by rw [State.wReq, h.wreq, Option.isSome_none]

theorem engineStep (h : s.AfterReset p) : s.engineStep = .next s := State.engineStep_idle h.busy

/-- No word of an operand register has a value to read after reset. -/
theorem peek_regWordAddr (h : s.AfterReset p) (hp : p.wf = true) (i : RegIx) {j : Nat} (hj : j < p.opw32) :
    s.peek (regWordAddr p i j) = none := by
  obtain rfl := h.param
  exact State.peek_regWordAddr_of_unwritten hp hj (h.unwritten i)

/-- What the control registers read after reset, in the order of their addresses. -/
theorem peek_control (h : s.AfterReset p) :
    s.peek 0x000 = some 0x4E544501 ∧ s.peek 0x004 = some (paramWord p) ∧ s.peek 0x008 = some 0 ∧
    s.peek 0x00C = some 0 ∧ s.peek 0x010 = some 0 ∧ s.peek 0x014 = some 4 ∧ s.peek 0x018 = some 0 ∧
    s.peek 0x01C = some 0 := by
  have hctrl : s.portData .ctrl = 0 := by simp [State.portData, h.ie, ctrlWord]
  have hstatus : s.portData .status = 0 := by
    rw [State.portData, h.status]
    decide
  refine ⟨State.peek_of_target (target_id _) rfl, ?_, ?_, ?_, ?_, ?_, ?_, ?_⟩
  · rw [State.peek_of_target (target_param _) rfl, State.portData, h.param]
  · rw [State.peek_of_target (target_ctrl _) rfl, hctrl]
  · rw [State.peek_of_target (target_status _) rfl, hstatus]
  · rw [State.peek_of_target (target_cmd _) rfl, State.portData, h.cmd]
  · rw [State.peek_of_target (target_certainty _) rfl, State.portData, h.certainty, Config.certReset]
  · rw [State.peek_of_target (target_info0 _) rfl, State.portData, h.info0]
  · rw [State.peek_of_target (target_info1 _) rfl, State.portData, h.info1]

/-- The state of R201 of an instance R6 allows meets the invariant: it is idle, with no outcome and no request. -/
theorem inv (h : s.AfterReset p) (hp : p.wf = true) : s.Inv where
  instanceOk    := by rw [h.param, hp]
  regWords      := by simp [h.param, h.regWords]
  busyNotDone   := by simp [h.busy]
  busyCleared   := by simp [h.busy]
  errorNoResult := by simp [h.status]
  answersFit    := by simp [h.witness]
  idleNoWitness := fun _ => ⟨h.wreq, h.witness⟩
  requestOk     := by simp [h.wreq]
  info0Reserved := by simp [h.info0]
  reasonVerdict := by simp [h.info0, h.status]

end State.AfterReset

theorem reference_wf : Config.reference.wf = true := by decide

theorem State.afterReset_reset : State.reset.AfterReset Config.reference := State.afterReset_powerOn Config.reference

end Sys2Proof.Machine

namespace Sys2Proof.Proofs

open Sys2Proof.Machine

/-- Settles O14: a reset move gives the state of R201 whatever was in flight, and that state is idle, so that neither the
engine's step nor a later answer changes it. -/
theorem resetAbandonsTheCommandInFlight : Obligations.ResetAbandonsTheCommandInFlight := by
  unfold Obligations.ResetAbandonsTheCommandInFlight
  intro s
  have h := s.afterReset_resetEngine
  obtain ⟨hid, hparam, hctrl, hstatus, hcmd, hcert, hinfo0, hinfo1⟩ := h.peek_control
  exact ⟨s.resetEngine, rfl, fun i => ⟨h.regWords i, h.unwritten i⟩, fun hp i j => h.peek_regWordAddr hp i,
    h.param, hid, hparam, hctrl, hstatus, hcmd, hcert, hinfo0, hinfo1,
    h.ie, h.status, h.cmd, h.certainty, h.info0, h.info1, h.wreq, h.wReq, h.witness, h.irq, h.engineStep,
    fun _ => ⟨rfl, rfl, fun e d => congrArg _ (State.answerWitness_idle h.busy e d)⟩⟩

/-- Settles O12: power-on of the reference instance gives the state of R201, with PARAM the word of that instance. -/
theorem resetLeavesTheTabledState : Obligations.ResetLeavesTheTabledState := by
  unfold Obligations.ResetLeavesTheTabledState
  have h := State.afterReset_reset
  have hword : paramWord Config.reference = 0x00801005 := by decide
  obtain ⟨hid, hparam, hctrl, hstatus, hcmd, hcert, hinfo0, hinfo1⟩ := h.peek_control
  rw [hword] at hparam
  exact ⟨fun i => ⟨h.regWords i, h.unwritten i⟩, fun i j => h.peek_regWordAddr reference_wf i,
    hid, hparam, hctrl, hstatus, hcmd, hcert, hinfo0, hinfo1,
    h.status, h.ie, h.wreq, h.wReq, h.irq, h.witness, h.engineStep⟩

/-- Settles O13: the state of R201 meets the invariant, and the reference instance is one R6 allows. -/
theorem invariantHoldsAtReset : Obligations.InvariantHoldsAtReset := by
  unfold Obligations.InvariantHoldsAtReset
  exact State.afterReset_reset.inv reference_wf

end Sys2Proof.Proofs
end
